-- ==== Sys2Proof/Word.lean ====
section
/-!
DEFINITION. The two sizes of value of the CPU12: a byte and a word (00_scope.md R7).
-/

namespace Sys2Proof

/-- An 8-bit value: an accumulator, a memory location (R7, R9). -/
abbrev Byte := BitVec 8

/-- A 16-bit value: D, X, Y, SP, PC, an effective address, a word of memory (R7). -/
abbrev Word := BitVec 16

end Sys2Proof
end

