-- ==== Sys2Proof/Config.lean ====
section
/-!
DEFINITION. What a version of the CPU fixes (00_scope.md R2, R8), and the free values: the values the spec
leaves open. A free value has no body, so a statement that mentions one holds for every value of it.
Each is applied to the state's counter `tick`, which every step advances, so that each draw is fresh
(log 9).
-/

namespace Sys2Proof

/-- The five versions of the CPU (R1). -/
inductive Version where
  | cpu12v0
  | cpu12v1
  | cpu12xv0
  | cpu12xv1
  | cpu12xv2
  deriving DecidableEq, Repr

/-- The CPU12X generation (R8). -/
def Version.isX : Version → Bool
  | .cpu12v0 => false
  | .cpu12v1 => false
  | .cpu12xv0 => true
  | .cpu12xv1 => true
  | .cpu12xv2 => true

/-- MEM, REV, REVW, WAV and wavr are implemented (R2, R8). -/
def Version.hasFuzzy : Version → Bool
  | .cpu12v0 => true
  | .cpu12v1 => false
  | .cpu12xv0 => true
  | .cpu12xv1 => false
  | .cpu12xv2 => false

/-- SYS is implemented (R2, R8). -/
def Version.hasSYS : Version → Bool
  | .cpu12v0 => false
  | .cpu12v1 => false
  | .cpu12xv0 => false
  | .cpu12xv1 => true
  | .cpu12xv2 => true

/-- The user state bit U is implemented (R2, R8). -/
def Version.hasUser : Version → Bool
  | .cpu12v0 => false
  | .cpu12v1 => false
  | .cpu12xv0 => false
  | .cpu12xv1 => false
  | .cpu12xv2 => true

/-- The flags and registers an instruction or a reset may leave undefined; one draw of each per step. -/
inductive Draw where
  | h | n | z | v | c | a | b | d | x | y | sp
  deriving DecidableEq, Repr

/-- An undefined flag after an instruction (93_implementation_defined.md U7, U8, U10), and the flags R682 leaves
open after a reset (U19). DESIGN CHOICE of form, safe: a free value (log 9). -/
opaque Config.freeFlag : Draw → Nat → Bool

/-- An undefined 8-bit register: A and B after a reset (U19). Safe: a free value (log 31). -/
opaque Config.freeByte : Draw → Nat → Byte

/-- An undefined 16-bit register: X, Y, SP after a reset (U19), the remainder left in D and the quotient in X by
the divide corners of U8 and U9. Safe: a free value (log 9). -/
opaque Config.freeWord : Draw → Nat → Word

/-- What TMP1, TMP2 or TMP3 holds when no TFR or EXG has just written it (R39, U21): the first argument is the
number of the register. Safe: a free value (log 8). -/
opaque Config.freeTmp : Nat → Nat → Word

/-- U3, a load whose destination is the auto-modified base: true when the register ends with the modified base,
false when it ends with the loaded value. Safe: a free value (log 10). -/
opaque Config.autoLoadKeepsBase : Nat → Bool

/-- U3, a store whose source is the auto-modified base: true when the modified base is stored, false when the old
one is. Safe: a free value (log 10). -/
opaque Config.autoStoreNewBase : Nat → Bool

/-- U14, a global word access at offset $FFFF: true when the second byte's address carries into the page. Safe: a
free value (log 11). -/
opaque Config.globalCarry : Nat → Bool

/-- U17, CALL with the stack in the program window: true when PPAGE is written before the stacking. Safe: a free
value (log 12). -/
opaque Config.callPageFirst : Nat → Bool

/-- U23, what a read of an address with no memory gives; the first argument is the location's key. Safe: a free
value (log 37). -/
opaque Config.openBus : Nat → Nat → Byte

/-- What a read of a device's address gives, of which the spec says nothing (R65, R78, U15, D8); the first argument is
the location's key. Safe: a free value (log 42). -/
opaque Config.deviceRead : Nat → Nat → Byte

/-- Bit 7 of the byte at GPAGE's address, which the spec's seven bits do not fill (R42, R67). Safe: a free value (log
39). -/
opaque Config.gpageTop : Nat → Bool

end Sys2Proof
end

