-- ==== Sys2Proof/Syntax.lean ====
section
/-!
DEFINITION. The abstract syntax: operand forms and the one inductive of instructions, one constructor per
mnemonic of spec/opcode_table.json. The rows of a mnemonic are its constructor with the addressing modes as
arguments (30_encoding.md R90 to R135).
-/

namespace Sys2Proof

/-- Base registers of the indexed modes: `rr` of the postbyte (R101). -/
inductive IdxReg where
  | x | y | sp | pc
  deriving DecidableEq, Repr

/-- Base registers of the auto increment and decrement modes; the PC is not one of them (R102). -/
inductive AutoReg where
  | x | y | sp
  deriving DecidableEq, Repr

/-- Accumulators that serve as an unsigned offset: `aa` of the postbyte (R103). -/
inductive AccOff where
  | a | b | d
  deriving DecidableEq, Repr

/-- The forms of the indexed postbyte `xb` with its extension bytes (R101 to R107, R110). -/
inductive Indexed where
  /-- IDX, 5-bit signed offset (R101). -/
  | off5 (r : IdxReg) (n : BitVec 5)
  /-- IDX, auto pre or post increment or decrement; `n` is the field `nnnn` (R102). -/
  | auto (r : AutoReg) (post : Bool) (n : BitVec 4)
  /-- IDX, accumulator offset (R103). -/
  | acc (r : IdxReg) (o : AccOff)
  /-- IDX1, 9-bit signed offset `s:ff` (R104). -/
  | off9 (r : IdxReg) (n : BitVec 9)
  /-- IDX2, 16-bit offset (R105). -/
  | off16 (r : IdxReg) (n : Word)
  /-- [IDX2], pointer at a 16-bit offset (R106). -/
  | ind16 (r : IdxReg) (n : Word)
  /-- [D,IDX], pointer at the offset D (R107). -/
  | indD (r : IdxReg)
  deriving DecidableEq, Repr

/-- A memory operand: direct, extended or indexed (R98, R99, R110). -/
inductive DirExtIdx where
  | dir (dd : Byte)
  | ext (addr : Word)
  | idx (xb : Indexed)
  deriving DecidableEq, Repr

/-- A memory operand with no direct form (R99, R110). -/
inductive ExtIdx where
  | ext (addr : Word)
  | idx (xb : Indexed)
  deriving DecidableEq, Repr

/-- The operand of an 8-bit instruction: immediate or memory (R97). -/
inductive Src8 where
  | imm (v : Byte)
  | mem (m : DirExtIdx)
  deriving DecidableEq, Repr

/-- The operand of a 16-bit instruction: immediate or memory (R97). -/
inductive Src16 where
  | imm (v : Word)
  | mem (m : DirExtIdx)
  deriving DecidableEq, Repr

/-- The six source and destination classes of MOVB and MOVW, source first (R93, R215, R218). -/
inductive Move (α : Type) where
  | immExt (v : α) (dst : Word)
  | immIdx (v : α) (dst : Indexed)
  | extExt (src dst : Word)
  | extIdx (src : Word) (dst : Indexed)
  | idxExt (src : Indexed) (dst : Word)
  | idxIdx (src dst : Indexed)
  deriving DecidableEq, Repr

/-- The operand forms of CALL: extended or indexed with the page in the instruction, or indexed-indirect with the
page in memory (R93, R536). -/
inductive CallOp where
  | ext (addr : Word) (page : Byte)
  | idx (xb : Indexed) (page : Byte)
  | ind (xb : Indexed)
  deriving DecidableEq, Repr

/-- Register codes 0 to 7 of the transfer and exchange postbyte `eb` (R120). -/
inductive XReg where
  | a | b | ccr | tmp | d | x | y | sp
  deriving DecidableEq, Repr

/-- Counter registers of the loop primitives (R125). -/
inductive LoopReg where
  | a | b | d | x | y | sp
  deriving DecidableEq, Repr

/-- Why the decoder refuses a sequence of bytes. -/
inductive DecodeError where
  /-- The bytes end before the instruction does. -/
  | truncated
  /-- An indexed postbyte of a form the instruction does not accept (R112, U4). -/
  | indexedForm
  /-- A reserved loop postbyte (R126, U6). -/
  | loopPostbyte
  /-- `eb` bit 3 set on CPU12V1 (R121, R205, U5). -/
  | transferBit3
  deriving DecidableEq, Repr

/-- The instructions, one constructor per mnemonic of spec/opcode_table.json, those with operands first, each
part in the table's order; each cites the rule of its meaning. -/
inductive Instr where
  /-- LDAA, R151. -/
  | ldaa (op : Src8)
  /-- LDAB, R152. -/
  | ldab (op : Src8)
  /-- LDD, R153. -/
  | ldd (op : Src16)
  /-- LDS, R154. -/
  | lds (op : Src16)
  /-- LDX, R155. -/
  | ldx (op : Src16)
  /-- LDY, R156. -/
  | ldy (op : Src16)
  /-- LEAS, R157. -/
  | leas (op : Indexed)
  /-- LEAX, R158. -/
  | leax (op : Indexed)
  /-- LEAY, R159. -/
  | leay (op : Indexed)
  /-- STAA, R161. -/
  | staa (op : DirExtIdx)
  /-- STAB, R162. -/
  | stab (op : DirExtIdx)
  /-- STD, R163. -/
  | std (op : DirExtIdx)
  /-- STS, R164. -/
  | sts (op : DirExtIdx)
  /-- STX, R165. -/
  | stx (op : DirExtIdx)
  /-- STY, R166. -/
  | sty (op : DirExtIdx)
  /-- GLDAA, R173. -/
  | gldaa (op : DirExtIdx)
  /-- GLDAB, R174. -/
  | gldab (op : DirExtIdx)
  /-- GLDD, R175. -/
  | gldd (op : DirExtIdx)
  /-- GLDS, R176. -/
  | glds (op : DirExtIdx)
  /-- GLDX, R177. -/
  | gldx (op : DirExtIdx)
  /-- GLDY, R178. -/
  | gldy (op : DirExtIdx)
  /-- GSTAA, R179. -/
  | gstaa (op : DirExtIdx)
  /-- GSTAB, R180. -/
  | gstab (op : DirExtIdx)
  /-- GSTD, R181. -/
  | gstd (op : DirExtIdx)
  /-- GSTS, R182. -/
  | gsts (op : DirExtIdx)
  /-- GSTX, R183. -/
  | gstx (op : DirExtIdx)
  /-- GSTY, R184. -/
  | gsty (op : DirExtIdx)
  /-- TFR, R191. -/
  | tfr (hi : Bool) (src : XReg) (dst : XReg)
  /-- SEX, R192. -/
  | sex (hi : Bool) (src : XReg) (dst : XReg)
  /-- EXG, R193. -/
  | exg (hi : Bool) (src : XReg) (dst : XReg)
  /-- MOVB, R215. -/
  | movb (m : Move Byte)
  /-- MOVW, R218. -/
  | movw (m : Move Word)
  /-- ADCA, R234. -/
  | adca (op : Src8)
  /-- ADCB, R235. -/
  | adcb (op : Src8)
  /-- ADDA, R236. -/
  | adda (op : Src8)
  /-- ADDB, R237. -/
  | addb (op : Src8)
  /-- ADDD, R239. -/
  | addd (op : Src16)
  /-- ADDX, R240. -/
  | addx (op : Src16)
  /-- ADDY, R241. -/
  | addy (op : Src16)
  /-- ADED, R242. -/
  | aded (op : Src16)
  /-- ADEX, R243. -/
  | adex (op : Src16)
  /-- ADEY, R244. -/
  | adey (op : Src16)
  /-- SBCA, R253. -/
  | sbca (op : Src8)
  /-- SBCB, R254. -/
  | sbcb (op : Src8)
  /-- SUBA, R255. -/
  | suba (op : Src8)
  /-- SUBB, R256. -/
  | subb (op : Src8)
  /-- SUBD, R257. -/
  | subd (op : Src16)
  /-- SUBX, R258. -/
  | subx (op : Src16)
  /-- SUBY, R259. -/
  | suby (op : Src16)
  /-- SBED, R260. -/
  | sbed (op : Src16)
  /-- SBEX, R261. -/
  | sbex (op : Src16)
  /-- SBEY, R262. -/
  | sbey (op : Src16)
  /-- DEC, R271. -/
  | dec (op : ExtIdx)
  /-- DECW, R274. -/
  | decw (op : ExtIdx)
  /-- INC, R280. -/
  | inc (op : ExtIdx)
  /-- INCW, R283. -/
  | incw (op : ExtIdx)
  /-- CMPA, R302. -/
  | cmpa (op : Src8)
  /-- CMPB, R303. -/
  | cmpb (op : Src8)
  /-- CPD, R304. -/
  | cpd (op : Src16)
  /-- CPS, R305. -/
  | cps (op : Src16)
  /-- CPX, R306. -/
  | cpx (op : Src16)
  /-- CPY, R307. -/
  | cpy (op : Src16)
  /-- CPED, R308. -/
  | cped (op : Src16)
  /-- CPES, R309. -/
  | cpes (op : Src16)
  /-- CPEX, R310. -/
  | cpex (op : Src16)
  /-- CPEY, R311. -/
  | cpey (op : Src16)
  /-- TST, R316. -/
  | tst (op : ExtIdx)
  /-- TSTW, R319. -/
  | tstw (op : ExtIdx)
  /-- ANDA, R326. -/
  | anda (op : Src8)
  /-- ANDB, R327. -/
  | andb (op : Src8)
  /-- ANDX, R328. -/
  | andx (op : Src16)
  /-- ANDY, R329. -/
  | andy (op : Src16)
  /-- EORA, R330. -/
  | eora (op : Src8)
  /-- EORB, R331. -/
  | eorb (op : Src8)
  /-- EORX, R332. -/
  | eorx (op : Src16)
  /-- EORY, R333. -/
  | eory (op : Src16)
  /-- ORAA, R334. -/
  | oraa (op : Src8)
  /-- ORAB, R335. -/
  | orab (op : Src8)
  /-- ORX, R336. -/
  | orx (op : Src16)
  /-- ORY, R337. -/
  | ory (op : Src16)
  /-- ANDCC, R340. -/
  | andcc (mask : Byte)
  /-- ORCC, R344. -/
  | orcc (mask : Byte)
  /-- CLR, R350. -/
  | clr (op : ExtIdx)
  /-- CLRW, R353. -/
  | clrw (op : ExtIdx)
  /-- COM, R359. -/
  | com (op : ExtIdx)
  /-- COMW, R362. -/
  | comw (op : ExtIdx)
  /-- NEG, R368. -/
  | neg (op : ExtIdx)
  /-- NEGW, R371. -/
  | negw (op : ExtIdx)
  /-- BCLR, R401. -/
  | bclr (op : DirExtIdx) (mask : Byte)
  /-- BSET, R402. -/
  | bset (op : DirExtIdx) (mask : Byte)
  /-- BTAS, R403. -/
  | btas (op : DirExtIdx) (mask : Byte)
  /-- BITA, R404. -/
  | bita (op : Src8)
  /-- BITB, R405. -/
  | bitb (op : Src8)
  /-- BITX, R406. -/
  | bitx (op : Src16)
  /-- BITY, R407. -/
  | bity (op : Src16)
  /-- ASL and LSL, R411. -/
  | asl (op : ExtIdx)
  /-- ASLW and LSLW, R415. -/
  | aslw (op : ExtIdx)
  /-- ASR, R421. -/
  | asr (op : ExtIdx)
  /-- ASRW, R424. -/
  | asrw (op : ExtIdx)
  /-- LSR, R431. -/
  | lsr (op : ExtIdx)
  /-- LSRW, R435. -/
  | lsrw (op : ExtIdx)
  /-- ROL, R441. -/
  | rol (op : ExtIdx)
  /-- ROLW, R444. -/
  | rolw (op : ExtIdx)
  /-- ROR, R451. -/
  | ror (op : ExtIdx)
  /-- RORW, R454. -/
  | rorw (op : ExtIdx)
  /-- MAXA, R481. -/
  | maxa (op : Indexed)
  /-- MAXM, R482. -/
  | maxm (op : Indexed)
  /-- MINA, R483. -/
  | mina (op : Indexed)
  /-- MINM, R484. -/
  | minm (op : Indexed)
  /-- EMAXD, R485. -/
  | emaxd (op : Indexed)
  /-- EMAXM, R486. -/
  | emaxm (op : Indexed)
  /-- EMIND, R487. -/
  | emind (op : Indexed)
  /-- EMINM, R488. -/
  | eminm (op : Indexed)
  /-- EMACS, R490. -/
  | emacs (addr : Word)
  /-- TBL, R493. -/
  | tbl (op : Indexed)
  /-- ETBL, R494. -/
  | etbl (op : Indexed)
  /-- BRA, R501. -/
  | bra (rel : Byte)
  /-- BRN, R502. -/
  | brn (rel : Byte)
  /-- BCC, R503. -/
  | bcc (rel : Byte)
  /-- BCS, R504. -/
  | bcs (rel : Byte)
  /-- BEQ, R505. -/
  | beq (rel : Byte)
  /-- BNE, R506. -/
  | bne (rel : Byte)
  /-- BMI, R507. -/
  | bmi (rel : Byte)
  /-- BPL, R508. -/
  | bpl (rel : Byte)
  /-- BVC, R509. -/
  | bvc (rel : Byte)
  /-- BVS, R510. -/
  | bvs (rel : Byte)
  /-- BHI, R511. -/
  | bhi (rel : Byte)
  /-- BHS, R512. -/
  | bhs (rel : Byte)
  /-- BLO, R513. -/
  | blo (rel : Byte)
  /-- BLS, R514. -/
  | bls (rel : Byte)
  /-- BGE, R515. -/
  | bge (rel : Byte)
  /-- BGT, R516. -/
  | bgt (rel : Byte)
  /-- BLE, R517. -/
  | ble (rel : Byte)
  /-- BLT, R518. -/
  | blt (rel : Byte)
  /-- LBRA, R721. -/
  | lbra (rel : Word)
  /-- LBRN, R722. -/
  | lbrn (rel : Word)
  /-- LBCC, R723. -/
  | lbcc (rel : Word)
  /-- LBCS, R724. -/
  | lbcs (rel : Word)
  /-- LBEQ, R725. -/
  | lbeq (rel : Word)
  /-- LBNE, R726. -/
  | lbne (rel : Word)
  /-- LBMI, R727. -/
  | lbmi (rel : Word)
  /-- LBPL, R728. -/
  | lbpl (rel : Word)
  /-- LBVC, R729. -/
  | lbvc (rel : Word)
  /-- LBVS, R730. -/
  | lbvs (rel : Word)
  /-- LBHI, R731. -/
  | lbhi (rel : Word)
  /-- LBHS, R732. -/
  | lbhs (rel : Word)
  /-- LBLO, R733. -/
  | lblo (rel : Word)
  /-- LBLS, R734. -/
  | lbls (rel : Word)
  /-- LBGE, R735. -/
  | lbge (rel : Word)
  /-- LBGT, R736. -/
  | lbgt (rel : Word)
  /-- LBLE, R737. -/
  | lble (rel : Word)
  /-- LBLT, R738. -/
  | lblt (rel : Word)
  /-- BRCLR, R520. -/
  | brclr (op : DirExtIdx) (mask : Byte) (rel : Byte)
  /-- BRSET, R521. -/
  | brset (op : DirExtIdx) (mask : Byte) (rel : Byte)
  /-- DBEQ, R523. -/
  | dbeq (r : LoopReg) (off : BitVec 9)
  /-- DBNE, R524. -/
  | dbne (r : LoopReg) (off : BitVec 9)
  /-- TBEQ, R527. -/
  | tbeq (r : LoopReg) (off : BitVec 9)
  /-- TBNE, R528. -/
  | tbne (r : LoopReg) (off : BitVec 9)
  /-- IBEQ, R525. -/
  | ibeq (r : LoopReg) (off : BitVec 9)
  /-- IBNE, R526. -/
  | ibne (r : LoopReg) (off : BitVec 9)
  /-- JMP, R531. -/
  | jmp (op : ExtIdx)
  /-- BSR, R532. -/
  | bsr (rel : Byte)
  /-- JSR, R533. -/
  | jsr (op : DirExtIdx)
  /-- CALL, R536. -/
  | call (op : CallOp)
  /-- TRAP, R546. -/
  | trap (tn : Byte)
  /-- TAB, R196. -/
  | tab
  /-- TBA, R197. -/
  | tba
  /-- TAP, R198. -/
  | tap
  /-- TPA, R199. -/
  | tpa
  /-- TSX, R206. -/
  | tsx
  /-- TSY, R207. -/
  | tsy
  /-- TXS, R208. -/
  | txs
  /-- TYS, R209. -/
  | tys
  /-- XGDX, R210. -/
  | xgdx
  /-- XGDY, R211. -/
  | xgdy
  /-- ABA, R231. -/
  | aba
  /-- ABX, R232. -/
  | abx
  /-- ABY, R233. -/
  | aby
  /-- SBA, R252. -/
  | sba
  /-- DAA, R265. -/
  | daa
  /-- DECA, R272. -/
  | deca
  /-- DECB, R273. -/
  | decb
  /-- DECX, R275. -/
  | decx
  /-- DECY, R276. -/
  | decy
  /-- DES, R277. -/
  | des
  /-- DEX, R278. -/
  | dex
  /-- DEY, R279. -/
  | dey
  /-- INCA, R281. -/
  | inca
  /-- INCB, R282. -/
  | incb
  /-- INCX, R284. -/
  | incx
  /-- INCY, R285. -/
  | incy
  /-- INS, R286. -/
  | ins
  /-- INX, R287. -/
  | inx
  /-- INY, R288. -/
  | iny
  /-- CBA, R301. -/
  | cba
  /-- TSTA, R317. -/
  | tsta
  /-- TSTB, R318. -/
  | tstb
  /-- TSTX, R320. -/
  | tstx
  /-- TSTY, R321. -/
  | tsty
  /-- CLC, R341. -/
  | clc
  /-- CLI, R342. -/
  | cli
  /-- CLV, R343. -/
  | clv
  /-- SEC, R345. -/
  | sec
  /-- SEI, R346. -/
  | sei
  /-- SEV, R347. -/
  | sev
  /-- CLRA, R351. -/
  | clra
  /-- CLRB, R352. -/
  | clrb
  /-- CLRX, R354. -/
  | clrx
  /-- CLRY, R355. -/
  | clry
  /-- COMA, R360. -/
  | coma
  /-- COMB, R361. -/
  | comb
  /-- COMX, R363. -/
  | comx
  /-- COMY, R364. -/
  | comy
  /-- NEGA, R369. -/
  | nega
  /-- NEGB, R370. -/
  | negb
  /-- NEGX, R372. -/
  | negx
  /-- NEGY, R373. -/
  | negy
  /-- MUL, R380. -/
  | mul
  /-- EMUL, R381. -/
  | emul
  /-- EMULS, R382. -/
  | emuls
  /-- EDIV, R383. -/
  | ediv
  /-- EDIVS, R384. -/
  | edivs
  /-- FDIV, R385. -/
  | fdiv
  /-- IDIV, R386. -/
  | idiv
  /-- IDIVS, R387. -/
  | idivs
  /-- ASLA and LSLA, R412. -/
  | asla
  /-- ASLB and LSLB, R413. -/
  | aslb
  /-- ASLD and LSLD, R414. -/
  | asld
  /-- ASLX and LSLX, R416. -/
  | aslx
  /-- ASLY and LSLY, R417. -/
  | asly
  /-- ASRA, R422. -/
  | asra
  /-- ASRB, R423. -/
  | asrb
  /-- ASRX, R425. -/
  | asrx
  /-- ASRY, R426. -/
  | asry
  /-- LSRA, R432. -/
  | lsra
  /-- LSRB, R433. -/
  | lsrb
  /-- LSRD, R434. -/
  | lsrd
  /-- LSRX, R436. -/
  | lsrx
  /-- LSRY, R437. -/
  | lsry
  /-- ROLA, R442. -/
  | rola
  /-- ROLB, R443. -/
  | rolb
  /-- ROLX, R445. -/
  | rolx
  /-- ROLY, R446. -/
  | roly
  /-- RORA, R452. -/
  | rora
  /-- RORB, R453. -/
  | rorb
  /-- RORX, R455. -/
  | rorx
  /-- RORY, R456. -/
  | rory
  /-- MEM, R471. -/
  | mem
  /-- REV, R474. -/
  | rev
  /-- REVW, R475. -/
  | revw
  /-- WAV, R476. -/
  | wav
  /-- wavr, R477. -/
  | wavr
  /-- RTS, R534. -/
  | rts
  /-- RTC, R540. -/
  | rtc
  /-- RTI, R541. -/
  | rti
  /-- SWI, R544. -/
  | swi
  /-- SYS, R545. -/
  | sys
  /-- BGND, R548. -/
  | bgnd
  /-- PSHA, R561. -/
  | psha
  /-- PSHB, R562. -/
  | pshb
  /-- PSHC, R563. -/
  | pshc
  /-- PSHD, R565. -/
  | pshd
  /-- PSHX, R566. -/
  | pshx
  /-- PSHY, R567. -/
  | pshy
  /-- PULA, R570. -/
  | pula
  /-- PULB, R571. -/
  | pulb
  /-- PULC, R572. -/
  | pulc
  /-- PULD, R574. -/
  | puld
  /-- PULX, R575. -/
  | pulx
  /-- PULY, R576. -/
  | puly
  /-- PSHCW, R564. -/
  | pshcw
  /-- PULCW, R573. -/
  | pulcw
  /-- NOP, R590. -/
  | nop
  /-- WAI, R598. -/
  | wai
  /-- STOP, R599. -/
  | stop
  deriving DecidableEq, Repr

end Sys2Proof
end

