-- ==== Sys2Proof/WellFormed.lean ====
section
/-!
DEFINITION. Which instructions a version has: the forms its encoding admits (30_encoding.md R112, R120 to R128,
R219). A term that is not well-formed has no bytes that decode to it.
-/

namespace Sys2Proof

/-- The form is not indexed-indirect: IDX, IDX1 or IDX2 (R112). -/
def Indexed.isDirect : Indexed → Bool
  | .off5 _ _ => true
  | .auto _ _ _ => true
  | .acc _ _ => true
  | .off9 _ _ => true
  | .off16 _ _ => true
  | .ind16 _ _ => false
  | .indD _ => false

/-- The form is IDX, with no extension byte and no pointer (R112, R219). -/
def Indexed.isShort : Indexed → Bool
  | .off5 _ _ => true
  | .auto _ _ _ => true
  | .acc _ _ => true
  | .off9 _ _ => false
  | .off16 _ _ => false
  | .ind16 _ _ => false
  | .indD _ => false

/-- The memory operand of the bit instructions is not indirect (R112, R400, R519). -/
def DirExtIdx.isDirect : DirExtIdx → Bool
  | .dir _ => true
  | .ext _ => true
  | .idx xb => xb.isDirect

/-- The indexed forms a move of this version accepts (R219). -/
def moveForm (v : Version) (xb : Indexed) : Bool := v.isX || xb.isShort

/-- Both operands of a move are of an accepted form (R219). -/
def Move.wf {α : Type} (v : Version) : Move α → Bool
  | .immExt _ _ => true
  | .immIdx _ dst => moveForm v dst
  | .extExt _ _ => true
  | .extIdx _ dst => moveForm v dst
  | .idxExt src _ => moveForm v src
  | .idxIdx src dst => moveForm v src && moveForm v dst

/-- CALL takes its page from the instruction with a form that is not indirect, from memory with one that is
(R93). -/
def CallOp.wf : CallOp → Bool
  | .ext _ _ => true
  | .idx xb _ => xb.isDirect
  | .ind xb => !xb.isDirect

/-- The instruction a transfer postbyte names; `hi` is bit 3 (R120, R190, R192, R202, R204). -/
def transferInstr (hi : Bool) (src dst : XReg) : Instr :=
  match hi, src, dst with
  | false, .a, .ccr => .tap
  | false, .ccr, .a => .tpa
  | false, .sp, .x => .tsx
  | false, .sp, .y => .tsy
  | false, .x, .sp => .txs
  | false, .y, .sp => .tys
  | false, .a, .tmp | false, .a, .d | false, .a, .x | false, .a, .y | false, .a, .sp => .sex false src dst
  | false, .b, .tmp | false, .b, .d | false, .b, .x | false, .b, .y | false, .b, .sp => .sex false src dst
  | false, .ccr, .tmp | false, .ccr, .d | false, .ccr, .x | false, .ccr, .y | false, .ccr, .sp => .sex false src dst
  | true, .a, .d | true, .b, .d | true, .d, .x | true, .d, .y => .sex true src dst
  | _, _, _ => .tfr hi src dst

/-- The instruction an exchange postbyte names (R120, R190). -/
def exchangeInstr (hi : Bool) (src dst : XReg) : Instr :=
  match hi, src, dst with
  | false, .d, .x => .xgdx
  | false, .d, .y => .xgdy
  | _, _, _ => .exg hi src dst

/-- Bit 3 of the transfer postbyte selects variants on CPU12X only (R121). -/
def transferForm (v : Version) (hi : Bool) : Bool := v.isX || !hi

/-- Page-2 positions that trap and have no constructor of their own (R128); `18 A7` on CPU12XV0 and the five
removed fuzzy opcodes trap through the meanings of SYS, MEM, wavr, REV, REVW and WAV (R131). -/
def unassigned (v : Version) (tn : Byte) : Bool :=
  let n := tn.toNat
  if v.isX then
    (0x30 ≤ n && n ≤ 0x34) || (0x49 ≤ n && n ≤ 0x4F) || n == 0x59 || n == 0x81 || n == 0x86 || n == 0x91 ||
      n == 0xA1 || n == 0xB1 || n == 0xB7 || n == 0xC1 || n == 0xC6 || (0xCC ≤ n && n ≤ 0xCF) || n == 0xD1 ||
      n == 0xE1 || n == 0xF1
  else (0x30 ≤ n && n ≤ 0x39) || 0x40 ≤ n

/-- The words of ANDCC that have a mnemonic of their own: CLC, CLI, CLV (R341 to R343). -/
def andccNamed (mask : Byte) : Bool := mask == 0xFE#8 || mask == 0xEF#8 || mask == 0xFD#8

/-- The words of ORCC that have a mnemonic of their own: SEC, SEI, SEV (R345 to R347). -/
def orccNamed (mask : Byte) : Bool := mask == 0x01#8 || mask == 0x10#8 || mask == 0x02#8

/-- The instruction is one the version's decoder can give. -/
def Instr.wf (v : Version) : Instr → Bool
  | .ldaa _ => true
  | .ldab _ => true
  | .ldd _ => true
  | .lds _ => true
  | .ldx _ => true
  | .ldy _ => true
  | .leas op => op.isDirect && op != .off5 .sp 31#5 && op != .off5 .sp 1#5
  | .leax op => op.isDirect && op != .acc .x .b
  | .leay op => op.isDirect && op != .acc .y .b
  | .staa _ => true
  | .stab _ => true
  | .std _ => true
  | .sts _ => true
  | .stx _ => true
  | .sty _ => true
  | .gldaa _ => v.isX
  | .gldab _ => v.isX
  | .gldd _ => v.isX
  | .glds _ => v.isX
  | .gldx _ => v.isX
  | .gldy _ => v.isX
  | .gstaa _ => v.isX
  | .gstab _ => v.isX
  | .gstd _ => v.isX
  | .gsts _ => v.isX
  | .gstx _ => v.isX
  | .gsty _ => v.isX
  | .tfr hi src dst => transferForm v hi && transferInstr hi src dst == .tfr hi src dst
  | .sex hi src dst => transferForm v hi && transferInstr hi src dst == .sex hi src dst
  | .exg hi src dst => transferForm v hi && exchangeInstr hi src dst == .exg hi src dst
  | .movb m => m.wf v
  | .movw m => m.wf v
  | .adca _ => true
  | .adcb _ => true
  | .adda _ => true
  | .addb _ => true
  | .addd _ => true
  | .addx _ => v.isX
  | .addy _ => v.isX
  | .aded _ => v.isX
  | .adex _ => v.isX
  | .adey _ => v.isX
  | .sbca _ => true
  | .sbcb _ => true
  | .suba _ => true
  | .subb _ => true
  | .subd _ => true
  | .subx _ => v.isX
  | .suby _ => v.isX
  | .sbed _ => v.isX
  | .sbex _ => v.isX
  | .sbey _ => v.isX
  | .dec _ => true
  | .decw _ => v.isX
  | .inc _ => true
  | .incw _ => v.isX
  | .cmpa _ => true
  | .cmpb _ => true
  | .cpd _ => true
  | .cps _ => true
  | .cpx _ => true
  | .cpy _ => true
  | .cped _ => v.isX
  | .cpes _ => v.isX
  | .cpex _ => v.isX
  | .cpey _ => v.isX
  | .tst _ => true
  | .tstw _ => v.isX
  | .anda _ => true
  | .andb _ => true
  | .andx _ => v.isX
  | .andy _ => v.isX
  | .eora _ => true
  | .eorb _ => true
  | .eorx _ => v.isX
  | .eory _ => v.isX
  | .oraa _ => true
  | .orab _ => true
  | .orx _ => v.isX
  | .ory _ => v.isX
  | .andcc mask => !andccNamed mask
  | .orcc mask => !orccNamed mask
  | .clr _ => true
  | .clrw _ => v.isX
  | .com _ => true
  | .comw _ => v.isX
  | .neg _ => true
  | .negw _ => v.isX
  | .bclr op _ => op.isDirect
  | .bset op _ => op.isDirect
  | .btas op _ => v.isX && op.isDirect
  | .bita _ => true
  | .bitb _ => true
  | .bitx _ => v.isX
  | .bity _ => v.isX
  | .asl _ => true
  | .aslw _ => v.isX
  | .asr _ => true
  | .asrw _ => v.isX
  | .lsr _ => true
  | .lsrw _ => v.isX
  | .rol _ => true
  | .rolw _ => v.isX
  | .ror _ => true
  | .rorw _ => v.isX
  | .maxa _ => true
  | .maxm _ => true
  | .mina _ => true
  | .minm _ => true
  | .emaxd _ => true
  | .emaxm _ => true
  | .emind _ => true
  | .eminm _ => true
  | .emacs _ => true
  | .tbl op => op.isShort
  | .etbl op => op.isShort
  | .bra _ => true
  | .brn _ => true
  | .bcc _ => true
  | .bcs _ => true
  | .beq _ => true
  | .bne _ => true
  | .bmi _ => true
  | .bpl _ => true
  | .bvc _ => true
  | .bvs _ => true
  | .bhi _ => true
  | .bhs _ => false
  | .blo _ => false
  | .bls _ => true
  | .bge _ => true
  | .bgt _ => true
  | .ble _ => true
  | .blt _ => true
  | .lbra _ => true
  | .lbrn _ => true
  | .lbcc _ => true
  | .lbcs _ => true
  | .lbeq _ => true
  | .lbne _ => true
  | .lbmi _ => true
  | .lbpl _ => true
  | .lbvc _ => true
  | .lbvs _ => true
  | .lbhi _ => true
  | .lbhs _ => false
  | .lblo _ => false
  | .lbls _ => true
  | .lbge _ => true
  | .lbgt _ => true
  | .lble _ => true
  | .lblt _ => true
  | .brclr op _ _ => op.isDirect
  | .brset op _ _ => op.isDirect
  | .dbeq _ _ => true
  | .dbne _ _ => true
  | .tbeq _ _ => true
  | .tbne _ _ => true
  | .ibeq _ _ => true
  | .ibne _ _ => true
  | .jmp _ => true
  | .bsr _ => true
  | .jsr _ => true
  | .call op => op.wf
  | .trap tn => unassigned v tn
  | .tab => true
  | .tba => true
  | .tap => true
  | .tpa => true
  | .tsx => true
  | .tsy => true
  | .txs => true
  | .tys => true
  | .xgdx => true
  | .xgdy => true
  | .aba => true
  | .abx => true
  | .aby => true
  | .sba => true
  | .daa => true
  | .deca => true
  | .decb => true
  | .decx => v.isX
  | .decy => v.isX
  | .des => true
  | .dex => true
  | .dey => true
  | .inca => true
  | .incb => true
  | .incx => v.isX
  | .incy => v.isX
  | .ins => true
  | .inx => true
  | .iny => true
  | .cba => true
  | .tsta => true
  | .tstb => true
  | .tstx => v.isX
  | .tsty => v.isX
  | .clc => true
  | .cli => true
  | .clv => true
  | .sec => true
  | .sei => true
  | .sev => true
  | .clra => true
  | .clrb => true
  | .clrx => v.isX
  | .clry => v.isX
  | .coma => true
  | .comb => true
  | .comx => v.isX
  | .comy => v.isX
  | .nega => true
  | .negb => true
  | .negx => v.isX
  | .negy => v.isX
  | .mul => true
  | .emul => true
  | .emuls => true
  | .ediv => true
  | .edivs => true
  | .fdiv => true
  | .idiv => true
  | .idivs => true
  | .asla => true
  | .aslb => true
  | .asld => true
  | .aslx => v.isX
  | .asly => v.isX
  | .asra => true
  | .asrb => true
  | .asrx => v.isX
  | .asry => v.isX
  | .lsra => true
  | .lsrb => true
  | .lsrd => true
  | .lsrx => v.isX
  | .lsry => v.isX
  | .rola => true
  | .rolb => true
  | .rolx => v.isX
  | .roly => v.isX
  | .rora => true
  | .rorb => true
  | .rorx => v.isX
  | .rory => v.isX
  | .mem => true
  | .rev => true
  | .revw => true
  | .wav => true
  | .wavr => true
  | .rts => true
  | .rtc => true
  | .rti => true
  | .swi => true
  | .sys => v.isX
  | .bgnd => true
  | .psha => true
  | .pshb => true
  | .pshc => true
  | .pshd => true
  | .pshx => true
  | .pshy => true
  | .pula => true
  | .pulb => true
  | .pulc => true
  | .puld => true
  | .pulx => true
  | .puly => true
  | .pshcw => v.isX
  | .pulcw => v.isX
  | .nop => true
  | .wai => true
  | .stop => true

end Sys2Proof
end

