-- ==== Sys2Proof/Decode.lean ====
section
/-!
DEFINITION. The decoder, from the bytes of memory to an instruction or a refusal by name (30_encoding.md R91), and
after it the encoder, written from the encoding lines of the instruction rules. The opcode maps R130, R132 and R133
stand as tables of sixteen rows of sixteen.
-/

namespace Sys2Proof

/-! ## Bytes and words (20_memory.md R61: big-endian) -/

/-- The high byte of a word. -/
def hiByte (w : Word) : Byte := w.extractLsb' 8 8

/-- The low byte of a word. -/
def loByte (w : Word) : Byte := w.extractLsb' 0 8

/-- The word `h:l`. -/
def joinBytes (h l : Byte) : Word := h ++ l

/-- A byte sign-extended to a word (`sext_16`, R14). -/
def sextByte (b : Byte) : Word := b.signExtend 16

/-- A byte zero-extended to a word (`zext_16`, R14). -/
def zextByte (b : Byte) : Word := b.zeroExtend 16

/-! ## Taking operand bytes (R92) -/

/-- What reading a part of an instruction gives: the part and the bytes after it, or why there is none. -/
abbrev Taken (α : Type) := Except DecodeError (α × List Byte)

/-- One byte of the instruction stream. -/
def takeByte : List Byte → Taken Byte
  | [] => .error .truncated
  | b :: bs => .ok (b, bs)

/-- Two bytes of the instruction stream, high byte first (R92). -/
def takeWord : List Byte → Taken Word
  | h :: l :: bs => .ok (joinBytes h l, bs)
  | [] => .error .truncated
  | [_] => .error .truncated

/-- The base register of the code `rr` (R101). -/
def idxRegOf (r : BitVec 2) : IdxReg :=
  if r = 0#2 then .x else if r = 1#2 then .y else if r = 2#2 then .sp else .pc

/-- The indexed operand: postbyte and extension bytes (R110). -/
def takeIndexed (bs : List Byte) : Except DecodeError (Indexed × List Byte) := do
  let (xb, bs) ← takeByte bs
  let top := xb.extractLsb' 6 2
  if xb.getLsbD 5 = false then
    return (.off5 (idxRegOf top) (xb.extractLsb' 0 5), bs)
  else if top = 0#2 then
    return (.auto .x (xb.getLsbD 4) (xb.extractLsb' 0 4), bs)
  else if top = 1#2 then
    return (.auto .y (xb.getLsbD 4) (xb.extractLsb' 0 4), bs)
  else if top = 2#2 then
    return (.auto .sp (xb.getLsbD 4) (xb.extractLsb' 0 4), bs)
  else
    let r := idxRegOf (xb.extractLsb' 3 2)
    let form := xb.extractLsb' 0 3
    if form = 4#3 then return (.acc r .a, bs)
    else if form = 5#3 then return (.acc r .b, bs)
    else if form = 6#3 then return (.acc r .d, bs)
    else if form = 7#3 then return (.indD r, bs)
    else if form = 2#3 then
      let (n, bs) ← takeWord bs
      return (.off16 r n, bs)
    else if form = 3#3 then
      let (n, bs) ← takeWord bs
      return (.ind16 r n, bs)
    else
      let (ff, bs) ← takeByte bs
      return (.off9 r (xb.extractLsb' 0 1 ++ ff), bs)

/-- An indexed operand of a form the instruction accepts; any other form is refused by name (R112, U4). -/
def takeForm (accepts : Indexed → Bool) (bs : List Byte) : Except DecodeError (Indexed × List Byte) := do
  let (xb, bs) ← takeIndexed bs
  if accepts xb then return (xb, bs) else throw .indexedForm

/-! ## Parsers of the operand bytes after an opcode -/

/-- Reads the operand bytes of one opcode. -/
abbrev Parser := List Byte → Except DecodeError (Instr × List Byte)

/-- No operand bytes (R96). -/
def pInh (i : Instr) : Parser := fun bs => .ok (i, bs)

/-- One operand byte: an immediate, a direct address, a mask or an 8-bit offset. -/
def pByte (f : Byte → Instr) : Parser := fun bs => do
  let (b, bs) ← takeByte bs
  return (f b, bs)

/-- One operand word: an immediate, an extended address or a 16-bit offset. -/
def pWord (f : Word → Instr) : Parser := fun bs => do
  let (v, bs) ← takeWord bs
  return (f v, bs)

/-- An indexed operand of an accepted form. -/
def pIdx (accepts : Indexed → Bool) (f : Indexed → Instr) : Parser := fun bs => do
  let (xb, bs) ← takeForm accepts bs
  return (f xb, bs)

/-- Every indexed form is accepted (R112). -/
def anyForm : Indexed → Bool := fun _ => true

/-- Immediate, direct, indexed and extended columns of an 8-bit instruction. -/
def pI8 (f : Src8 → Instr) : Parser := pByte fun v => f (.imm v)
/-- Direct column of an 8-bit instruction. -/
def pD8 (f : Src8 → Instr) : Parser := pByte fun v => f (.mem (.dir v))
/-- Indexed column of an 8-bit instruction. -/
def pX8 (f : Src8 → Instr) : Parser := pIdx anyForm fun v => f (.mem (.idx v))
/-- Extended column of an 8-bit instruction. -/
def pE8 (f : Src8 → Instr) : Parser := pWord fun v => f (.mem (.ext v))
/-- Immediate column of a 16-bit instruction. -/
def pI16 (f : Src16 → Instr) : Parser := pWord fun v => f (.imm v)
/-- Direct column of a 16-bit instruction. -/
def pD16 (f : Src16 → Instr) : Parser := pByte fun v => f (.mem (.dir v))
/-- Indexed column of a 16-bit instruction. -/
def pX16 (f : Src16 → Instr) : Parser := pIdx anyForm fun v => f (.mem (.idx v))
/-- Extended column of a 16-bit instruction. -/
def pE16 (f : Src16 → Instr) : Parser := pWord fun v => f (.mem (.ext v))
/-- Direct form of a memory operand. -/
def pDM (f : DirExtIdx → Instr) : Parser := pByte fun v => f (.dir v)
/-- Extended form of a memory operand. -/
def pEM (f : DirExtIdx → Instr) : Parser := pWord fun v => f (.ext v)
/-- Indexed form of a memory operand. -/
def pXM (f : DirExtIdx → Instr) : Parser := pIdx anyForm fun v => f (.idx v)
/-- Extended form of an operand with no direct form. -/
def pEE (f : ExtIdx → Instr) : Parser := pWord fun v => f (.ext v)
/-- Indexed form of an operand with no direct form. -/
def pXE (f : ExtIdx → Instr) : Parser := pIdx anyForm fun v => f (.idx v)

/-- An operand followed by a mask (R93). -/
def thenMask (take : List Byte → Taken DirExtIdx) (f : DirExtIdx → Byte → Instr) : Parser := fun bs => do
  let (m, bs) ← take bs
  let (mask, bs) ← takeByte bs
  return (f m mask, bs)

/-- An operand followed by a mask and an 8-bit offset (R93). -/
def thenMaskRel (take : List Byte → Taken DirExtIdx) (f : DirExtIdx → Byte → Byte → Instr) : Parser := fun bs => do
  let (m, bs) ← take bs
  let (mask, bs) ← takeByte bs
  let (rel, bs) ← takeByte bs
  return (f m mask rel, bs)

/-- The direct address of a bit instruction. -/
def takeDir (bs : List Byte) : Except DecodeError (DirExtIdx × List Byte) := do
  let (b, bs) ← takeByte bs
  return (.dir b, bs)

/-- The extended address of a bit instruction. -/
def takeExt (bs : List Byte) : Except DecodeError (DirExtIdx × List Byte) := do
  let (a, bs) ← takeWord bs
  return (.ext a, bs)

/-- The indexed operand of a bit instruction, not indirect (R112). -/
def takeIdx (bs : List Byte) : Except DecodeError (DirExtIdx × List Byte) := do
  let (xb, bs) ← takeForm Indexed.isDirect bs
  return (.idx xb, bs)

/-- LEAX, LEAY, LEAS, and the words of theirs that ABX, ABY, DES and INS name (R112, R130). -/
def nameLea (i : Instr) : Instr :=
  if i = .leax (.acc .x .b) then .abx
  else if i = .leay (.acc .y .b) then .aby
  else if i = .leas (.off5 .sp 31#5) then .des
  else if i = .leas (.off5 .sp 1#5) then .ins
  else i

/-- LEAX, LEAY or LEAS (R112). -/
def pLea (f : Indexed → Instr) : Parser := pIdx Indexed.isDirect fun xb => nameLea (f xb)

/-- ANDCC, and CLC, CLI, CLV by their own words (R130). -/
def nameAndcc (mask : Byte) : Instr :=
  if mask = 0xFE#8 then .clc else if mask = 0xEF#8 then .cli else if mask = 0xFD#8 then .clv else .andcc mask

/-- ORCC, and SEC, SEI, SEV by their own words (R130). -/
def nameOrcc (mask : Byte) : Instr :=
  if mask = 0x01#8 then .sec else if mask = 0x10#8 then .sei else if mask = 0x02#8 then .sev else .orcc mask

/-- Moves (R93): the layouts of the six classes. -/
def pMoveImmIdx {α : Type} (v : Version) (imm : List Byte → Taken α) (f : Move α → Instr) : Parser := fun bs => do
  let (d, bs) ← takeForm (moveForm v) bs
  let (k, bs) ← imm bs
  return (f (.immIdx k d), bs)

/-- Extended source, indexed destination: the destination postbyte stands first (R93). -/
def pMoveExtIdx {α : Type} (v : Version) (f : Move α → Instr) : Parser := fun bs => do
  let (d, bs) ← takeForm (moveForm v) bs
  let (s, bs) ← takeWord bs
  return (f (.extIdx s d), bs)

/-- Indexed source, indexed destination (R93). -/
def pMoveIdxIdx {α : Type} (v : Version) (f : Move α → Instr) : Parser := fun bs => do
  let (s, bs) ← takeForm (moveForm v) bs
  let (d, bs) ← takeForm (moveForm v) bs
  return (f (.idxIdx s d), bs)

/-- Immediate source, extended destination (R93). -/
def pMoveImmExt {α : Type} (imm : List Byte → Taken α) (f : Move α → Instr) : Parser := fun bs => do
  let (k, bs) ← imm bs
  let (d, bs) ← takeWord bs
  return (f (.immExt k d), bs)

/-- Extended source, extended destination (R93). -/
def pMoveExtExt {α : Type} (f : Move α → Instr) : Parser := fun bs => do
  let (s, bs) ← takeWord bs
  let (d, bs) ← takeWord bs
  return (f (.extExt s d), bs)

/-- Indexed source, extended destination (R93). -/
def pMoveIdxExt {α : Type} (v : Version) (f : Move α → Instr) : Parser := fun bs => do
  let (s, bs) ← takeForm (moveForm v) bs
  let (d, bs) ← takeWord bs
  return (f (.idxExt s d), bs)

/-- CALL with an extended address: address, page (R93). -/
def pCallExt : Parser := fun bs => do
  let (a, bs) ← takeWord bs
  let (pg, bs) ← takeByte bs
  return (.call (.ext a pg), bs)

/-- CALL with an indexed operand: a page byte follows unless the form is indirect (R93). -/
def pCallIdx : Parser := fun bs => do
  let (xb, bs) ← takeIndexed bs
  if xb.isDirect then
    let (pg, bs) ← takeByte bs
    return (.call (.idx xb pg), bs)
  else return (.call (.ind xb), bs)

/-- The register of a three-bit code of `eb` (R120). -/
def xregOf (n : BitVec 3) : XReg :=
  if n = 0#3 then .a else if n = 1#3 then .b else if n = 2#3 then .ccr else if n = 3#3 then .tmp
  else if n = 4#3 then .d else if n = 5#3 then .x else if n = 6#3 then .y else .sp

/-- The transfer and exchange postbyte (R120, R121): bit 3 is refused on CPU12V1 (U5) and ignored on CPU12V0. -/
def pTransfer (v : Version) : Parser := fun bs => do
  let (eb, bs) ← takeByte bs
  if eb.getLsbD 3 && v == .cpu12v1 then throw .transferBit3
  let hi := eb.getLsbD 3 && v.isX
  let src := xregOf (eb.extractLsb' 4 3)
  let dst := xregOf (eb.extractLsb' 0 3)
  return (if eb.getLsbD 7 then exchangeInstr hi src dst else transferInstr hi src dst, bs)

/-- The counter register of a loop postbyte; 010 and 011 are reserved (R125, R126). -/
def loopRegOf (n : BitVec 3) : Option LoopReg :=
  if n = 0#3 then some .a else if n = 1#3 then some .b else if n = 4#3 then some .d
  else if n = 5#3 then some .x else if n = 6#3 then some .y else if n = 7#3 then some .sp else none

/-- The loop primitive of bits 7:5; 110 and 111 are reserved (R125, R126). -/
def loopInstrOf (op : BitVec 3) (r : LoopReg) (off : BitVec 9) : Option Instr :=
  if op = 0#3 then some (.dbeq r off) else if op = 1#3 then some (.dbne r off)
  else if op = 2#3 then some (.tbeq r off) else if op = 3#3 then some (.tbne r off)
  else if op = 4#3 then some (.ibeq r off) else if op = 5#3 then some (.ibne r off) else none

/-- The loop postbyte and the low byte of the offset; bit 3 is not looked at (R125). -/
def pLoop : Parser := fun bs => do
  let (lb, bs) ← takeByte bs
  let (rr, bs) ← takeByte bs
  match loopRegOf (lb.extractLsb' 0 3) with
  | none => throw .loopPostbyte
  | some r =>
    match loopInstrOf (lb.extractLsb' 5 3) r (lb.extractLsb' 4 1 ++ rr) with
    | none => throw .loopPostbyte
    | some i => return (i, bs)

/-! ## The opcode maps -/

/-- Page 2, row 0x, every version (R132, R133). -/
def page2Row0 (v : Version) : List Parser :=
  [pMoveImmIdx v takeWord .movw, pMoveExtIdx v .movw, pMoveIdxIdx v .movw, pMoveImmExt takeWord .movw,
   pMoveExtExt .movw, pMoveIdxExt v .movw, pInh .aba, pInh .daa,
   pMoveImmIdx v takeByte .movb, pMoveExtIdx v .movb, pMoveIdxIdx v .movb, pMoveImmExt takeByte .movb,
   pMoveExtExt .movb, pMoveIdxExt v .movb, pInh .tab, pInh .tba]

/-- Page 2, row 1x, every version (R132, R133). -/
def page2Row1 : List Parser :=
  [pInh .idiv, pInh .fdiv, pWord .emacs, pInh .emuls,
   pInh .edivs, pInh .idivs, pInh .sba, pInh .cba,
   pIdx anyForm .maxa, pIdx anyForm .mina, pIdx anyForm .emaxd, pIdx anyForm .emind,
   pIdx anyForm .maxm, pIdx anyForm .minm, pIdx anyForm .emaxm, pIdx anyForm .eminm]

/-- Page 2, row 2x, every version (R132, R133). -/
def page2Row2 : List Parser :=
  [pWord .lbra, pWord .lbrn, pWord .lbhi, pWord .lbls,
   pWord .lbcc, pWord .lbcs, pWord .lbne, pWord .lbeq,
   pWord .lbvc, pWord .lbvs, pWord .lbpl, pWord .lbmi,
   pWord .lbge, pWord .lblt, pWord .lbgt, pWord .lble]

/-- Page 2, row 3x, CPU12 (R132). -/
def page2Row3Cpu12 : List Parser :=
  [pInh (.trap 0x30#8), pInh (.trap 0x31#8), pInh (.trap 0x32#8), pInh (.trap 0x33#8),
   pInh (.trap 0x34#8), pInh (.trap 0x35#8), pInh (.trap 0x36#8), pInh (.trap 0x37#8),
   pInh (.trap 0x38#8), pInh (.trap 0x39#8), pInh .rev, pInh .revw,
   pInh .wav, pIdx Indexed.isShort .tbl, pInh .stop, pIdx Indexed.isShort .etbl]

/-- Page 2, row 3x, CPU12X (R133). -/
def page2Row3 : List Parser :=
  [pInh (.trap 0x30#8), pInh (.trap 0x31#8), pInh (.trap 0x32#8), pInh (.trap 0x33#8),
   pInh (.trap 0x34#8), thenMask takeDir .btas, thenMask takeExt .btas, thenMask takeIdx .btas,
   pInh .pulcw, pInh .pshcw, pInh .rev, pInh .revw,
   pInh .wav, pIdx Indexed.isShort .tbl, pInh .stop, pIdx Indexed.isShort .etbl]

/-- Page 2, row 4x, CPU12X (R133). -/
def page2Row4 : List Parser :=
  [pInh .negx, pInh .comx, pInh .incx, pInh .decx,
   pInh .lsrx, pInh .rolx, pInh .rorx, pInh .asrx,
   pInh .aslx, pInh (.trap 0x49#8), pInh (.trap 0x4A#8), pInh (.trap 0x4B#8),
   pInh (.trap 0x4C#8), pInh (.trap 0x4D#8), pInh (.trap 0x4E#8), pInh (.trap 0x4F#8)]

/-- Page 2, row 5x, CPU12X (R133). -/
def page2Row5 : List Parser :=
  [pInh .negy, pInh .comy, pInh .incy, pInh .decy,
   pInh .lsry, pInh .roly, pInh .rory, pInh .asry,
   pInh .asly, pInh (.trap 0x59#8), pDM .gstaa, pDM .gstab,
   pDM .gstd, pDM .gsty, pDM .gstx, pDM .gsts]

/-- Page 2, row 6x, CPU12X (R133). -/
def page2Row6 : List Parser :=
  [pXE .negw, pXE .comw, pXE .incw, pXE .decw,
   pXE .lsrw, pXE .rolw, pXE .rorw, pXE .asrw,
   pXE .aslw, pXE .clrw, pXM .gstaa, pXM .gstab,
   pXM .gstd, pXM .gsty, pXM .gstx, pXM .gsts]

/-- Page 2, row 7x, CPU12X (R133). -/
def page2Row7 : List Parser :=
  [pEE .negw, pEE .comw, pEE .incw, pEE .decw,
   pEE .lsrw, pEE .rolw, pEE .rorw, pEE .asrw,
   pEE .aslw, pEE .clrw, pEM .gstaa, pEM .gstab,
   pEM .gstd, pEM .gsty, pEM .gstx, pEM .gsts]

/-- Page 2, row 8x, CPU12X (R133). -/
def page2Row8 : List Parser :=
  [pI16 .subx, pInh (.trap 0x81#8), pI16 .sbex, pI16 .sbed,
   pI16 .andx, pI16 .bitx, pInh (.trap 0x86#8), pInh .clrx,
   pI16 .eorx, pI16 .adex, pI16 .orx, pI16 .addx,
   pI16 .cped, pI16 .cpey, pI16 .cpex, pI16 .cpes]

/-- Page 2, row 9x, CPU12X (R133). -/
def page2Row9 : List Parser :=
  [pD16 .subx, pInh (.trap 0x91#8), pD16 .sbex, pD16 .sbed,
   pD16 .andx, pD16 .bitx, pDM .gldaa, pInh .tstx,
   pD16 .eorx, pD16 .adex, pD16 .orx, pD16 .addx,
   pD16 .cped, pD16 .cpey, pD16 .cpex, pD16 .cpes]

/-- Page 2, row Ax, CPU12X (R133). -/
def page2RowA : List Parser :=
  [pX16 .subx, pInh (.trap 0xA1#8), pX16 .sbex, pX16 .sbed,
   pX16 .andx, pX16 .bitx, pXM .gldaa, pInh .sys,
   pX16 .eorx, pX16 .adex, pX16 .orx, pX16 .addx,
   pX16 .cped, pX16 .cpey, pX16 .cpex, pX16 .cpes]

/-- Page 2, row Bx, CPU12X (R133). -/
def page2RowB : List Parser :=
  [pE16 .subx, pInh (.trap 0xB1#8), pE16 .sbex, pE16 .sbed,
   pE16 .andx, pE16 .bitx, pEM .gldaa, pInh (.trap 0xB7#8),
   pE16 .eorx, pE16 .adex, pE16 .orx, pE16 .addx,
   pE16 .cped, pE16 .cpey, pE16 .cpex, pE16 .cpes]

/-- Page 2, row Cx, CPU12X (R133). -/
def page2RowC : List Parser :=
  [pI16 .suby, pInh (.trap 0xC1#8), pI16 .sbey, pI16 .aded,
   pI16 .andy, pI16 .bity, pInh (.trap 0xC6#8), pInh .clry,
   pI16 .eory, pI16 .adey, pI16 .ory, pI16 .addy,
   pInh (.trap 0xCC#8), pInh (.trap 0xCD#8), pInh (.trap 0xCE#8), pInh (.trap 0xCF#8)]

/-- Page 2, row Dx, CPU12X (R133). -/
def page2RowD : List Parser :=
  [pD16 .suby, pInh (.trap 0xD1#8), pD16 .sbey, pD16 .aded,
   pD16 .andy, pD16 .bity, pDM .gldab, pInh .tsty,
   pD16 .eory, pD16 .adey, pD16 .ory, pD16 .addy,
   pDM .gldd, pDM .gldy, pDM .gldx, pDM .glds]

/-- Page 2, row Ex, CPU12X (R133). -/
def page2RowE : List Parser :=
  [pX16 .suby, pInh (.trap 0xE1#8), pX16 .sbey, pX16 .aded,
   pX16 .andy, pX16 .bity, pXM .gldab, pXE .tstw,
   pX16 .eory, pX16 .adey, pX16 .ory, pX16 .addy,
   pXM .gldd, pXM .gldy, pXM .gldx, pXM .glds]

/-- Page 2, row Fx, CPU12X (R133). -/
def page2RowF : List Parser :=
  [pE16 .suby, pInh (.trap 0xF1#8), pE16 .sbey, pE16 .aded,
   pE16 .andy, pE16 .bity, pEM .gldab, pEE .tstw,
   pE16 .eory, pE16 .adey, pE16 .ory, pE16 .addy,
   pEM .gldd, pEM .gldy, pEM .gldx, pEM .glds]

/-- Page 2 of CPU12X (R133). -/
def page2X (v : Version) : List (List Parser) :=
  [page2Row0 v, page2Row1, page2Row2, page2Row3, page2Row4, page2Row5, page2Row6, page2Row7,
   page2Row8, page2Row9, page2RowA, page2RowB, page2RowC, page2RowD, page2RowE, page2RowF]

/-- Page 2 of CPU12: rows 4x to Fx all trap (R132). -/
def page2Cpu12 (v : Version) : List (List Parser) :=
  [page2Row0 v, page2Row1, page2Row2, page2Row3Cpu12]

/-- The entry of a map at a byte: row by its high digit, column by its low digit. -/
def mapEntry (rows : List (List Parser)) (b : Byte) : Option Parser :=
  match rows[b.toNat / 16]? with
  | none => none
  | some row => row[b.toNat % 16]?

/-- A page-2 instruction after its prebyte: a position with no entry is TRAP (R91, R128). -/
def pPage2 (v : Version) : Parser := fun bs => do
  let (tn, bs) ← takeByte bs
  match mapEntry (if v.isX then page2X v else page2Cpu12 v) tn with
  | some p => p bs
  | none => return (.trap tn, bs)

/-- Page 1, row 0x (R130). -/
def page1Row0 : List Parser :=
  [pInh .bgnd, pInh .mem, pInh .iny, pInh .dey,
   pLoop, pXE .jmp, pEE .jmp, pByte .bsr,
   pInh .inx, pInh .dex, pInh .rtc, pInh .rti,
   thenMask takeIdx .bset, thenMask takeIdx .bclr, thenMaskRel takeIdx .brset, thenMaskRel takeIdx .brclr]

/-- Page 1, row 1x (R130). -/
def page1Row1 (v : Version) : List Parser :=
  [pByte nameAndcc, pInh .ediv, pInh .mul, pInh .emul,
   pByte nameOrcc, pXM .jsr, pEM .jsr, pDM .jsr,
   pPage2 v, pLea .leay, pLea .leax, pLea .leas,
   thenMask takeExt .bset, thenMask takeExt .bclr, thenMaskRel takeExt .brset, thenMaskRel takeExt .brclr]

/-- Page 1, row 2x (R130). -/
def page1Row2 : List Parser :=
  [pByte .bra, pByte .brn, pByte .bhi, pByte .bls,
   pByte .bcc, pByte .bcs, pByte .bne, pByte .beq,
   pByte .bvc, pByte .bvs, pByte .bpl, pByte .bmi,
   pByte .bge, pByte .blt, pByte .bgt, pByte .ble]

/-- Page 1, row 3x (R130). -/
def page1Row3 : List Parser :=
  [pInh .pulx, pInh .puly, pInh .pula, pInh .pulb,
   pInh .pshx, pInh .pshy, pInh .psha, pInh .pshb,
   pInh .pulc, pInh .pshc, pInh .puld, pInh .pshd,
   pInh .wavr, pInh .rts, pInh .wai, pInh .swi]

/-- Page 1, row 4x (R130). -/
def page1Row4 : List Parser :=
  [pInh .nega, pInh .coma, pInh .inca, pInh .deca,
   pInh .lsra, pInh .rola, pInh .rora, pInh .asra,
   pInh .asla, pInh .lsrd, pCallExt, pCallIdx,
   thenMask takeDir .bset, thenMask takeDir .bclr, thenMaskRel takeDir .brset, thenMaskRel takeDir .brclr]

/-- Page 1, row 5x (R130). -/
def page1Row5 : List Parser :=
  [pInh .negb, pInh .comb, pInh .incb, pInh .decb,
   pInh .lsrb, pInh .rolb, pInh .rorb, pInh .asrb,
   pInh .aslb, pInh .asld, pDM .staa, pDM .stab,
   pDM .std, pDM .sty, pDM .stx, pDM .sts]

/-- Page 1, row 6x (R130). -/
def page1Row6 : List Parser :=
  [pXE .neg, pXE .com, pXE .inc, pXE .dec,
   pXE .lsr, pXE .rol, pXE .ror, pXE .asr,
   pXE .asl, pXE .clr, pXM .staa, pXM .stab,
   pXM .std, pXM .sty, pXM .stx, pXM .sts]

/-- Page 1, row 7x (R130). -/
def page1Row7 : List Parser :=
  [pEE .neg, pEE .com, pEE .inc, pEE .dec,
   pEE .lsr, pEE .rol, pEE .ror, pEE .asr,
   pEE .asl, pEE .clr, pEM .staa, pEM .stab,
   pEM .std, pEM .sty, pEM .stx, pEM .sts]

/-- Page 1, row 8x (R130). -/
def page1Row8 : List Parser :=
  [pI8 .suba, pI8 .cmpa, pI8 .sbca, pI16 .subd,
   pI8 .anda, pI8 .bita, pI8 .ldaa, pInh .clra,
   pI8 .eora, pI8 .adca, pI8 .oraa, pI8 .adda,
   pI16 .cpd, pI16 .cpy, pI16 .cpx, pI16 .cps]

/-- Page 1, row 9x (R130). -/
def page1Row9 : List Parser :=
  [pD8 .suba, pD8 .cmpa, pD8 .sbca, pD16 .subd,
   pD8 .anda, pD8 .bita, pD8 .ldaa, pInh .tsta,
   pD8 .eora, pD8 .adca, pD8 .oraa, pD8 .adda,
   pD16 .cpd, pD16 .cpy, pD16 .cpx, pD16 .cps]

/-- Page 1, row Ax (R130). -/
def page1RowA : List Parser :=
  [pX8 .suba, pX8 .cmpa, pX8 .sbca, pX16 .subd,
   pX8 .anda, pX8 .bita, pX8 .ldaa, pInh .nop,
   pX8 .eora, pX8 .adca, pX8 .oraa, pX8 .adda,
   pX16 .cpd, pX16 .cpy, pX16 .cpx, pX16 .cps]

/-- Page 1, row Bx (R130). -/
def page1RowB (v : Version) : List Parser :=
  [pE8 .suba, pE8 .cmpa, pE8 .sbca, pE16 .subd,
   pE8 .anda, pE8 .bita, pE8 .ldaa, pTransfer v,
   pE8 .eora, pE8 .adca, pE8 .oraa, pE8 .adda,
   pE16 .cpd, pE16 .cpy, pE16 .cpx, pE16 .cps]

/-- Page 1, row Cx (R130). -/
def page1RowC : List Parser :=
  [pI8 .subb, pI8 .cmpb, pI8 .sbcb, pI16 .addd,
   pI8 .andb, pI8 .bitb, pI8 .ldab, pInh .clrb,
   pI8 .eorb, pI8 .adcb, pI8 .orab, pI8 .addb,
   pI16 .ldd, pI16 .ldy, pI16 .ldx, pI16 .lds]

/-- Page 1, row Dx (R130). -/
def page1RowD : List Parser :=
  [pD8 .subb, pD8 .cmpb, pD8 .sbcb, pD16 .addd,
   pD8 .andb, pD8 .bitb, pD8 .ldab, pInh .tstb,
   pD8 .eorb, pD8 .adcb, pD8 .orab, pD8 .addb,
   pD16 .ldd, pD16 .ldy, pD16 .ldx, pD16 .lds]

/-- Page 1, row Ex (R130). -/
def page1RowE : List Parser :=
  [pX8 .subb, pX8 .cmpb, pX8 .sbcb, pX16 .addd,
   pX8 .andb, pX8 .bitb, pX8 .ldab, pXE .tst,
   pX8 .eorb, pX8 .adcb, pX8 .orab, pX8 .addb,
   pX16 .ldd, pX16 .ldy, pX16 .ldx, pX16 .lds]

/-- Page 1, row Fx (R130). -/
def page1RowF : List Parser :=
  [pE8 .subb, pE8 .cmpb, pE8 .sbcb, pE16 .addd,
   pE8 .andb, pE8 .bitb, pE8 .ldab, pEE .tst,
   pE8 .eorb, pE8 .adcb, pE8 .orab, pE8 .addb,
   pE16 .ldd, pE16 .ldy, pE16 .ldx, pE16 .lds]

/-- Page 1 (R130). -/
def page1 (v : Version) : List (List Parser) :=
  [page1Row0, page1Row1 v, page1Row2, page1Row3, page1Row4, page1Row5, page1Row6, page1Row7,
   page1Row8, page1Row9, page1RowA, page1RowB v, page1RowC, page1RowD, page1RowE, page1RowF]

/-- The decoder (R91): the instruction at the head of the bytes and the bytes after it, or the reason there is none.
Every byte has an entry of page 1, so the last arm is never reached. -/
def decode (v : Version) (bs : List Byte) : Except DecodeError (Instr × List Byte) := do
  let (op, rest) ← takeByte bs
  match mapEntry (page1 v) op with
  | some p => p rest
  | none => throw .truncated

/-! ## The encoder -/

/-- The code `rr` of a base register (R101). -/
def IdxReg.code : IdxReg → BitVec 2
  | .x => 0#2
  | .y => 1#2
  | .sp => 2#2
  | .pc => 3#2

/-- The code `rr` of an auto-modified register (R102). -/
def AutoReg.code : AutoReg → BitVec 2
  | .x => 0#2
  | .y => 1#2
  | .sp => 2#2

/-- The code `aa` of an accumulator offset (R103). -/
def AccOff.code : AccOff → BitVec 2
  | .a => 0#2
  | .b => 1#2
  | .d => 2#2

/-- Bytes of a word, high byte first (R61, R92). -/
def wordBytes (w : Word) : List Byte := [hiByte w, loByte w]

/-- The postbyte and extension bytes of an indexed operand (R110). -/
def Indexed.bytes : Indexed → List Byte
  | .off5 r n => [r.code ++ 0#1 ++ n]
  | .auto r post n => [r.code ++ 1#1 ++ BitVec.ofBool post ++ n]
  | .acc r o => [7#3 ++ r.code ++ 1#1 ++ o.code]
  | .off9 r n => [7#3 ++ r.code ++ 0#2 ++ n.extractLsb' 8 1, n.extractLsb' 0 8]
  | .off16 r n => (7#3 ++ r.code ++ 2#3) :: wordBytes n
  | .ind16 r n => (7#3 ++ r.code ++ 3#3) :: wordBytes n
  | .indD r => [7#3 ++ r.code ++ 7#3]

/-- An 8-bit operand under its four opcodes: immediate, direct, indexed, extended. -/
def Src8.bytes (i d x e : Byte) : Src8 → List Byte
  | .imm v => [i, v]
  | .mem (.dir a) => [d, a]
  | .mem (.idx xb) => x :: xb.bytes
  | .mem (.ext a) => e :: wordBytes a

/-- A 16-bit operand under its four opcodes: immediate, direct, indexed, extended. -/
def Src16.bytes (i d x e : Byte) : Src16 → List Byte
  | .imm v => i :: wordBytes v
  | .mem (.dir a) => [d, a]
  | .mem (.idx xb) => x :: xb.bytes
  | .mem (.ext a) => e :: wordBytes a

/-- A memory operand under its three opcodes: direct, indexed, extended. -/
def DirExtIdx.bytes (d x e : Byte) : DirExtIdx → List Byte
  | .dir a => [d, a]
  | .idx xb => x :: xb.bytes
  | .ext a => e :: wordBytes a

/-- A memory operand with no direct form under its two opcodes: indexed, extended. -/
def ExtIdx.bytes (x e : Byte) : ExtIdx → List Byte
  | .idx xb => x :: xb.bytes
  | .ext a => e :: wordBytes a

/-- A move after its prebyte; `base` is the opcode of the class IMM-IDX and `imm` lays out the immediate (R93, R215,
R218). -/
def Move.bytes {α : Type} (base : Byte) (imm : α → List Byte) : Move α → List Byte
  | .immIdx k d => base :: d.bytes ++ imm k
  | .extIdx s d => (base + 1#8) :: d.bytes ++ wordBytes s
  | .idxIdx s d => (base + 2#8) :: s.bytes ++ d.bytes
  | .immExt k d => (base + 3#8) :: imm k ++ wordBytes d
  | .extExt s d => (base + 4#8) :: wordBytes s ++ wordBytes d
  | .idxExt s d => (base + 5#8) :: s.bytes ++ wordBytes d

/-- CALL (R93, R536). -/
def CallOp.bytes : CallOp → List Byte
  | .ext a pg => 0x4A#8 :: wordBytes a ++ [pg]
  | .idx xb pg => 0x4B#8 :: xb.bytes ++ [pg]
  | .ind xb => 0x4B#8 :: xb.bytes

/-- The code of a register in `eb` (R120). -/
def XReg.code : XReg → BitVec 3
  | .a => 0#3
  | .b => 1#3
  | .ccr => 2#3
  | .tmp => 3#3
  | .d => 4#3
  | .x => 5#3
  | .y => 6#3
  | .sp => 7#3

/-- The transfer and exchange postbyte (R120). -/
def ebByte (exchange hi : Bool) (src dst : XReg) : Byte :=
  BitVec.ofBool exchange ++ src.code ++ BitVec.ofBool hi ++ dst.code

/-- The code of a counter register (R125). -/
def LoopReg.code : LoopReg → BitVec 3
  | .a => 0#3
  | .b => 1#3
  | .d => 4#3
  | .x => 5#3
  | .y => 6#3
  | .sp => 7#3

/-- A loop primitive: opcode, postbyte with bit 3 zero, low byte of the offset (R125). -/
def loopBytes (op : BitVec 3) (r : LoopReg) (off : BitVec 9) : List Byte :=
  [0x04#8, op ++ off.extractLsb' 8 1 ++ 0#1 ++ r.code, off.extractLsb' 0 8]

/-- The encoder: the bytes of an instruction, from the encoding line of its rule. -/
def encode : Instr → List Byte
  | .ldaa op => op.bytes 0x86#8 0x96#8 0xA6#8 0xB6#8
  | .ldab op => op.bytes 0xC6#8 0xD6#8 0xE6#8 0xF6#8
  | .ldd op => op.bytes 0xCC#8 0xDC#8 0xEC#8 0xFC#8
  | .lds op => op.bytes 0xCF#8 0xDF#8 0xEF#8 0xFF#8
  | .ldx op => op.bytes 0xCE#8 0xDE#8 0xEE#8 0xFE#8
  | .ldy op => op.bytes 0xCD#8 0xDD#8 0xED#8 0xFD#8
  | .leas op => 0x1B#8 :: op.bytes
  | .leax op => 0x1A#8 :: op.bytes
  | .leay op => 0x19#8 :: op.bytes
  | .staa op => op.bytes 0x5A#8 0x6A#8 0x7A#8
  | .stab op => op.bytes 0x5B#8 0x6B#8 0x7B#8
  | .std op => op.bytes 0x5C#8 0x6C#8 0x7C#8
  | .sts op => op.bytes 0x5F#8 0x6F#8 0x7F#8
  | .stx op => op.bytes 0x5E#8 0x6E#8 0x7E#8
  | .sty op => op.bytes 0x5D#8 0x6D#8 0x7D#8
  | .gldaa op => 0x18#8 :: op.bytes 0x96#8 0xA6#8 0xB6#8
  | .gldab op => 0x18#8 :: op.bytes 0xD6#8 0xE6#8 0xF6#8
  | .gldd op => 0x18#8 :: op.bytes 0xDC#8 0xEC#8 0xFC#8
  | .glds op => 0x18#8 :: op.bytes 0xDF#8 0xEF#8 0xFF#8
  | .gldx op => 0x18#8 :: op.bytes 0xDE#8 0xEE#8 0xFE#8
  | .gldy op => 0x18#8 :: op.bytes 0xDD#8 0xED#8 0xFD#8
  | .gstaa op => 0x18#8 :: op.bytes 0x5A#8 0x6A#8 0x7A#8
  | .gstab op => 0x18#8 :: op.bytes 0x5B#8 0x6B#8 0x7B#8
  | .gstd op => 0x18#8 :: op.bytes 0x5C#8 0x6C#8 0x7C#8
  | .gsts op => 0x18#8 :: op.bytes 0x5F#8 0x6F#8 0x7F#8
  | .gstx op => 0x18#8 :: op.bytes 0x5E#8 0x6E#8 0x7E#8
  | .gsty op => 0x18#8 :: op.bytes 0x5D#8 0x6D#8 0x7D#8
  | .tfr hi src dst => [0xB7#8, ebByte false hi src dst]
  | .sex hi src dst => [0xB7#8, ebByte false hi src dst]
  | .exg hi src dst => [0xB7#8, ebByte true hi src dst]
  | .movb m => 0x18#8 :: m.bytes 0x08#8 (fun k => [k])
  | .movw m => 0x18#8 :: m.bytes 0x00#8 wordBytes
  | .adca op => op.bytes 0x89#8 0x99#8 0xA9#8 0xB9#8
  | .adcb op => op.bytes 0xC9#8 0xD9#8 0xE9#8 0xF9#8
  | .adda op => op.bytes 0x8B#8 0x9B#8 0xAB#8 0xBB#8
  | .addb op => op.bytes 0xCB#8 0xDB#8 0xEB#8 0xFB#8
  | .addd op => op.bytes 0xC3#8 0xD3#8 0xE3#8 0xF3#8
  | .addx op => 0x18#8 :: op.bytes 0x8B#8 0x9B#8 0xAB#8 0xBB#8
  | .addy op => 0x18#8 :: op.bytes 0xCB#8 0xDB#8 0xEB#8 0xFB#8
  | .aded op => 0x18#8 :: op.bytes 0xC3#8 0xD3#8 0xE3#8 0xF3#8
  | .adex op => 0x18#8 :: op.bytes 0x89#8 0x99#8 0xA9#8 0xB9#8
  | .adey op => 0x18#8 :: op.bytes 0xC9#8 0xD9#8 0xE9#8 0xF9#8
  | .sbca op => op.bytes 0x82#8 0x92#8 0xA2#8 0xB2#8
  | .sbcb op => op.bytes 0xC2#8 0xD2#8 0xE2#8 0xF2#8
  | .suba op => op.bytes 0x80#8 0x90#8 0xA0#8 0xB0#8
  | .subb op => op.bytes 0xC0#8 0xD0#8 0xE0#8 0xF0#8
  | .subd op => op.bytes 0x83#8 0x93#8 0xA3#8 0xB3#8
  | .subx op => 0x18#8 :: op.bytes 0x80#8 0x90#8 0xA0#8 0xB0#8
  | .suby op => 0x18#8 :: op.bytes 0xC0#8 0xD0#8 0xE0#8 0xF0#8
  | .sbed op => 0x18#8 :: op.bytes 0x83#8 0x93#8 0xA3#8 0xB3#8
  | .sbex op => 0x18#8 :: op.bytes 0x82#8 0x92#8 0xA2#8 0xB2#8
  | .sbey op => 0x18#8 :: op.bytes 0xC2#8 0xD2#8 0xE2#8 0xF2#8
  | .dec op => op.bytes 0x63#8 0x73#8
  | .decw op => 0x18#8 :: op.bytes 0x63#8 0x73#8
  | .inc op => op.bytes 0x62#8 0x72#8
  | .incw op => 0x18#8 :: op.bytes 0x62#8 0x72#8
  | .cmpa op => op.bytes 0x81#8 0x91#8 0xA1#8 0xB1#8
  | .cmpb op => op.bytes 0xC1#8 0xD1#8 0xE1#8 0xF1#8
  | .cpd op => op.bytes 0x8C#8 0x9C#8 0xAC#8 0xBC#8
  | .cps op => op.bytes 0x8F#8 0x9F#8 0xAF#8 0xBF#8
  | .cpx op => op.bytes 0x8E#8 0x9E#8 0xAE#8 0xBE#8
  | .cpy op => op.bytes 0x8D#8 0x9D#8 0xAD#8 0xBD#8
  | .cped op => 0x18#8 :: op.bytes 0x8C#8 0x9C#8 0xAC#8 0xBC#8
  | .cpes op => 0x18#8 :: op.bytes 0x8F#8 0x9F#8 0xAF#8 0xBF#8
  | .cpex op => 0x18#8 :: op.bytes 0x8E#8 0x9E#8 0xAE#8 0xBE#8
  | .cpey op => 0x18#8 :: op.bytes 0x8D#8 0x9D#8 0xAD#8 0xBD#8
  | .tst op => op.bytes 0xE7#8 0xF7#8
  | .tstw op => 0x18#8 :: op.bytes 0xE7#8 0xF7#8
  | .anda op => op.bytes 0x84#8 0x94#8 0xA4#8 0xB4#8
  | .andb op => op.bytes 0xC4#8 0xD4#8 0xE4#8 0xF4#8
  | .andx op => 0x18#8 :: op.bytes 0x84#8 0x94#8 0xA4#8 0xB4#8
  | .andy op => 0x18#8 :: op.bytes 0xC4#8 0xD4#8 0xE4#8 0xF4#8
  | .eora op => op.bytes 0x88#8 0x98#8 0xA8#8 0xB8#8
  | .eorb op => op.bytes 0xC8#8 0xD8#8 0xE8#8 0xF8#8
  | .eorx op => 0x18#8 :: op.bytes 0x88#8 0x98#8 0xA8#8 0xB8#8
  | .eory op => 0x18#8 :: op.bytes 0xC8#8 0xD8#8 0xE8#8 0xF8#8
  | .oraa op => op.bytes 0x8A#8 0x9A#8 0xAA#8 0xBA#8
  | .orab op => op.bytes 0xCA#8 0xDA#8 0xEA#8 0xFA#8
  | .orx op => 0x18#8 :: op.bytes 0x8A#8 0x9A#8 0xAA#8 0xBA#8
  | .ory op => 0x18#8 :: op.bytes 0xCA#8 0xDA#8 0xEA#8 0xFA#8
  | .andcc mask => [0x10#8, mask]
  | .orcc mask => [0x14#8, mask]
  | .clr op => op.bytes 0x69#8 0x79#8
  | .clrw op => 0x18#8 :: op.bytes 0x69#8 0x79#8
  | .com op => op.bytes 0x61#8 0x71#8
  | .comw op => 0x18#8 :: op.bytes 0x61#8 0x71#8
  | .neg op => op.bytes 0x60#8 0x70#8
  | .negw op => 0x18#8 :: op.bytes 0x60#8 0x70#8
  | .bclr op mask => op.bytes 0x4D#8 0x0D#8 0x1D#8 ++ [mask]
  | .bset op mask => op.bytes 0x4C#8 0x0C#8 0x1C#8 ++ [mask]
  | .btas op mask => 0x18#8 :: op.bytes 0x35#8 0x37#8 0x36#8 ++ [mask]
  | .bita op => op.bytes 0x85#8 0x95#8 0xA5#8 0xB5#8
  | .bitb op => op.bytes 0xC5#8 0xD5#8 0xE5#8 0xF5#8
  | .bitx op => 0x18#8 :: op.bytes 0x85#8 0x95#8 0xA5#8 0xB5#8
  | .bity op => 0x18#8 :: op.bytes 0xC5#8 0xD5#8 0xE5#8 0xF5#8
  | .asl op => op.bytes 0x68#8 0x78#8
  | .aslw op => 0x18#8 :: op.bytes 0x68#8 0x78#8
  | .asr op => op.bytes 0x67#8 0x77#8
  | .asrw op => 0x18#8 :: op.bytes 0x67#8 0x77#8
  | .lsr op => op.bytes 0x64#8 0x74#8
  | .lsrw op => 0x18#8 :: op.bytes 0x64#8 0x74#8
  | .rol op => op.bytes 0x65#8 0x75#8
  | .rolw op => 0x18#8 :: op.bytes 0x65#8 0x75#8
  | .ror op => op.bytes 0x66#8 0x76#8
  | .rorw op => 0x18#8 :: op.bytes 0x66#8 0x76#8
  | .maxa op => 0x18#8 :: 0x18#8 :: op.bytes
  | .maxm op => 0x18#8 :: 0x1C#8 :: op.bytes
  | .mina op => 0x18#8 :: 0x19#8 :: op.bytes
  | .minm op => 0x18#8 :: 0x1D#8 :: op.bytes
  | .emaxd op => 0x18#8 :: 0x1A#8 :: op.bytes
  | .emaxm op => 0x18#8 :: 0x1E#8 :: op.bytes
  | .emind op => 0x18#8 :: 0x1B#8 :: op.bytes
  | .eminm op => 0x18#8 :: 0x1F#8 :: op.bytes
  | .emacs addr => 0x18#8 :: 0x12#8 :: wordBytes addr
  | .tbl op => 0x18#8 :: 0x3D#8 :: op.bytes
  | .etbl op => 0x18#8 :: 0x3F#8 :: op.bytes
  | .bra rel => [0x20#8, rel]
  | .brn rel => [0x21#8, rel]
  | .bcc rel => [0x24#8, rel]
  | .bcs rel => [0x25#8, rel]
  | .beq rel => [0x27#8, rel]
  | .bne rel => [0x26#8, rel]
  | .bmi rel => [0x2B#8, rel]
  | .bpl rel => [0x2A#8, rel]
  | .bvc rel => [0x28#8, rel]
  | .bvs rel => [0x29#8, rel]
  | .bhi rel => [0x22#8, rel]
  | .bhs rel => [0x24#8, rel]
  | .blo rel => [0x25#8, rel]
  | .bls rel => [0x23#8, rel]
  | .bge rel => [0x2C#8, rel]
  | .bgt rel => [0x2E#8, rel]
  | .ble rel => [0x2F#8, rel]
  | .blt rel => [0x2D#8, rel]
  | .lbra rel => 0x18#8 :: 0x20#8 :: wordBytes rel
  | .lbrn rel => 0x18#8 :: 0x21#8 :: wordBytes rel
  | .lbcc rel => 0x18#8 :: 0x24#8 :: wordBytes rel
  | .lbcs rel => 0x18#8 :: 0x25#8 :: wordBytes rel
  | .lbeq rel => 0x18#8 :: 0x27#8 :: wordBytes rel
  | .lbne rel => 0x18#8 :: 0x26#8 :: wordBytes rel
  | .lbmi rel => 0x18#8 :: 0x2B#8 :: wordBytes rel
  | .lbpl rel => 0x18#8 :: 0x2A#8 :: wordBytes rel
  | .lbvc rel => 0x18#8 :: 0x28#8 :: wordBytes rel
  | .lbvs rel => 0x18#8 :: 0x29#8 :: wordBytes rel
  | .lbhi rel => 0x18#8 :: 0x22#8 :: wordBytes rel
  | .lbhs rel => 0x18#8 :: 0x24#8 :: wordBytes rel
  | .lblo rel => 0x18#8 :: 0x25#8 :: wordBytes rel
  | .lbls rel => 0x18#8 :: 0x23#8 :: wordBytes rel
  | .lbge rel => 0x18#8 :: 0x2C#8 :: wordBytes rel
  | .lbgt rel => 0x18#8 :: 0x2E#8 :: wordBytes rel
  | .lble rel => 0x18#8 :: 0x2F#8 :: wordBytes rel
  | .lblt rel => 0x18#8 :: 0x2D#8 :: wordBytes rel
  | .brclr op mask rel => op.bytes 0x4F#8 0x0F#8 0x1F#8 ++ [mask, rel]
  | .brset op mask rel => op.bytes 0x4E#8 0x0E#8 0x1E#8 ++ [mask, rel]
  | .dbeq r off => loopBytes 0#3 r off
  | .dbne r off => loopBytes 1#3 r off
  | .tbeq r off => loopBytes 2#3 r off
  | .tbne r off => loopBytes 3#3 r off
  | .ibeq r off => loopBytes 4#3 r off
  | .ibne r off => loopBytes 5#3 r off
  | .jmp op => op.bytes 0x05#8 0x06#8
  | .bsr rel => [0x07#8, rel]
  | .jsr op => op.bytes 0x17#8 0x15#8 0x16#8
  | .call op => op.bytes
  | .trap tn => [0x18#8, tn]
  | .tab => [0x18#8, 0x0E#8]
  | .tba => [0x18#8, 0x0F#8]
  | .tap => [0xB7#8, 0x02#8]
  | .tpa => [0xB7#8, 0x20#8]
  | .tsx => [0xB7#8, 0x75#8]
  | .tsy => [0xB7#8, 0x76#8]
  | .txs => [0xB7#8, 0x57#8]
  | .tys => [0xB7#8, 0x67#8]
  | .xgdx => [0xB7#8, 0xC5#8]
  | .xgdy => [0xB7#8, 0xC6#8]
  | .aba => [0x18#8, 0x06#8]
  | .abx => [0x1A#8, 0xE5#8]
  | .aby => [0x19#8, 0xED#8]
  | .sba => [0x18#8, 0x16#8]
  | .daa => [0x18#8, 0x07#8]
  | .deca => [0x43#8]
  | .decb => [0x53#8]
  | .decx => [0x18#8, 0x43#8]
  | .decy => [0x18#8, 0x53#8]
  | .des => [0x1B#8, 0x9F#8]
  | .dex => [0x09#8]
  | .dey => [0x03#8]
  | .inca => [0x42#8]
  | .incb => [0x52#8]
  | .incx => [0x18#8, 0x42#8]
  | .incy => [0x18#8, 0x52#8]
  | .ins => [0x1B#8, 0x81#8]
  | .inx => [0x08#8]
  | .iny => [0x02#8]
  | .cba => [0x18#8, 0x17#8]
  | .tsta => [0x97#8]
  | .tstb => [0xD7#8]
  | .tstx => [0x18#8, 0x97#8]
  | .tsty => [0x18#8, 0xD7#8]
  | .clc => [0x10#8, 0xFE#8]
  | .cli => [0x10#8, 0xEF#8]
  | .clv => [0x10#8, 0xFD#8]
  | .sec => [0x14#8, 0x01#8]
  | .sei => [0x14#8, 0x10#8]
  | .sev => [0x14#8, 0x02#8]
  | .clra => [0x87#8]
  | .clrb => [0xC7#8]
  | .clrx => [0x18#8, 0x87#8]
  | .clry => [0x18#8, 0xC7#8]
  | .coma => [0x41#8]
  | .comb => [0x51#8]
  | .comx => [0x18#8, 0x41#8]
  | .comy => [0x18#8, 0x51#8]
  | .nega => [0x40#8]
  | .negb => [0x50#8]
  | .negx => [0x18#8, 0x40#8]
  | .negy => [0x18#8, 0x50#8]
  | .mul => [0x12#8]
  | .emul => [0x13#8]
  | .emuls => [0x18#8, 0x13#8]
  | .ediv => [0x11#8]
  | .edivs => [0x18#8, 0x14#8]
  | .fdiv => [0x18#8, 0x11#8]
  | .idiv => [0x18#8, 0x10#8]
  | .idivs => [0x18#8, 0x15#8]
  | .asla => [0x48#8]
  | .aslb => [0x58#8]
  | .asld => [0x59#8]
  | .aslx => [0x18#8, 0x48#8]
  | .asly => [0x18#8, 0x58#8]
  | .asra => [0x47#8]
  | .asrb => [0x57#8]
  | .asrx => [0x18#8, 0x47#8]
  | .asry => [0x18#8, 0x57#8]
  | .lsra => [0x44#8]
  | .lsrb => [0x54#8]
  | .lsrd => [0x49#8]
  | .lsrx => [0x18#8, 0x44#8]
  | .lsry => [0x18#8, 0x54#8]
  | .rola => [0x45#8]
  | .rolb => [0x55#8]
  | .rolx => [0x18#8, 0x45#8]
  | .roly => [0x18#8, 0x55#8]
  | .rora => [0x46#8]
  | .rorb => [0x56#8]
  | .rorx => [0x18#8, 0x46#8]
  | .rory => [0x18#8, 0x56#8]
  | .mem => [0x01#8]
  | .rev => [0x18#8, 0x3A#8]
  | .revw => [0x18#8, 0x3B#8]
  | .wav => [0x18#8, 0x3C#8]
  | .wavr => [0x3C#8]
  | .rts => [0x3D#8]
  | .rtc => [0x0A#8]
  | .rti => [0x0B#8]
  | .swi => [0x3F#8]
  | .sys => [0x18#8, 0xA7#8]
  | .bgnd => [0x00#8]
  | .psha => [0x36#8]
  | .pshb => [0x37#8]
  | .pshc => [0x39#8]
  | .pshd => [0x3B#8]
  | .pshx => [0x34#8]
  | .pshy => [0x35#8]
  | .pula => [0x32#8]
  | .pulb => [0x33#8]
  | .pulc => [0x38#8]
  | .puld => [0x3A#8]
  | .pulx => [0x30#8]
  | .puly => [0x31#8]
  | .pshcw => [0x18#8, 0x39#8]
  | .pulcw => [0x18#8, 0x38#8]
  | .nop => [0xA7#8]
  | .wai => [0x3E#8]
  | .stop => [0x18#8, 0x3E#8]

/-! ## The host's question about one row of the table -/

/-- The bytes of an instruction whose first `nbits` bits are `w`, numbered as spec/opcode_table.json numbers them: one
big-endian number over the first bytes, the first byte most significant (30_encoding.md section 8); the bytes after
those are zero, up to the longest instruction, eight bytes (R90). -/
def tableBytes (nbits w : Nat) : List Byte :=
  let n := (nbits + 7) / 8
  (List.range n).map (fun k => BitVec.ofNat 8 (w / 256 ^ (n - 1 - k))) ++ List.replicate 8 0#8

/-- The instruction the decoder reads from a table row's word at a version. -/
def decodeTableWordAt (v : Version) (nbits w : Nat) : Option Instr :=
  match decode v (tableBytes nbits w) with
  | .ok (i, _) => some i
  | .error _ => none

/-- The instruction the decoder reads from a table row's word, at the version the model resets to (log 1, log 33). -/
def decodeTableWord (nbits w : Nat) : Option Instr := decodeTableWordAt .cpu12xv0 nbits w

end Sys2Proof
end

