-- ==== Sys2Proof/Machine/Memory.lean ====
section
/-!
DEFINITION. Memory as plain data: a list of cells in one canonical form, addresses strictly rising and no entry equal
to what an unlisted address reads as (20_memory.md R60, R65; 92_eei_decisions.md D8, D31).
-/

namespace Sys2Proof.Machine

/-- The cells of memory, each with its key. -/
abbrev Mem := List Host.Cell

/-- What an address that nothing has written reads as. DESIGN CHOICE, unsafe: the spec gives no content of memory
before a program is loaded (R684, D31; log 4). -/
def Mem.unlisted : Byte := 0#8

/-- The byte at a key. -/
def Mem.get : Mem → Nat → Byte
  | [], _ => Mem.unlisted
  | c :: m, k => if c.1 = k then c.2 else Mem.get m k

/-- The memory without an entry for a key. -/
def Mem.erase (m : Mem) (k : Nat) : Mem := m.filter fun c => c.1 != k

/-- The memory with an entry put in at its place in the order. -/
def Mem.insert (k : Nat) (v : Byte) : Mem → Mem
  | [] => [(k, v)]
  | c :: m => if k < c.1 then (k, v) :: c :: m else c :: Mem.insert k v m

/-- The memory after a byte is written: writing what an unlisted address reads as removes the entry. -/
def Mem.set (m : Mem) (k : Nat) (v : Byte) : Mem :=
  if v = Mem.unlisted then m.erase k else Mem.insert k v (m.erase k)

/-- The canonical form holds. -/
def Mem.wf (m : Mem) : Bool :=
  decide (m.Pairwise fun c d => c.1 < d.1) && m.all fun c => c.2 != Mem.unlisted

end Sys2Proof.Machine
end

