-- ==== Sys2Proof/Machine/State.lean ====
section
/-!
DEFINITION. The state of the machine: everything the spec gives it (10_state.md R48), the parameters of R8, the inputs
of R624 and five fields of the model's own. INVENTORY.md lists each field with its rule and its reset value.
-/

namespace Sys2Proof.Machine

/-- The condition code register, all eight bits of which exist on every version (R25); `x` is the XIRQ mask, XM in the
spec's pseudocode. -/
structure Ccr where
  s : Bool
  x : Bool
  h : Bool
  i : Bool
  n : Bool
  z : Bool
  v : Bool
  c : Bool
  deriving DecidableEq, Repr

/-- The bits of CCRH that exist: U (CPU12XV2) and IPL (CPU12X) (R26, R36, R37). -/
structure Ccrh where
  u : Bool
  ipl : BitVec 3
  deriving DecidableEq, Repr

/-- An internal temporary: the word last written, and the tick at which that word is known (R39, D17; log 8). -/
structure Tmp where
  value : Word
  stamp : Nat
  deriving DecidableEq, Repr

/-- The intermediate results of a WAV between two iterations: the sum of products, held in 32 bits of which WAV itself
fills 24, and the 16-bit sum of weights (R40, R476 to R478). -/
structure WavSums where
  sop : BitVec 32
  sow : Word
  deriving DecidableEq, Repr

/-- The run state (R46). -/
inductive RunState where
  | running
  | waiting
  | stopped
  | bdm
  deriving DecidableEq, Repr

/-- A run of 16-byte blocks of accesses, from `first` to `last`, and the physical block the first of them reaches (R8;
log 2). -/
structure Region where
  first : Nat
  last : Nat
  target : Nat
  deriving DecidableEq, Repr

/-- What lies at physical addresses that are not plain memory: nothing (R88), memory that cannot be written, or a device
(R65; log 42). -/
inductive AreaKind where
  | absent
  | readOnly
  | device
  deriving DecidableEq, Repr

/-- A run of physical addresses, from `first` to `last`, that are not plain memory. -/
structure Area where
  first : Nat
  last : Nat
  kind : AreaKind
  deriving DecidableEq, Repr

/-- The memory map `Phys` (R8, R65, R67, R68, D8, D10; log 2). An access, by its kind, its address and its page, is a
number (`State.localKey`, `globalKey`); `regions` takes it to a physical address, `areas` says where there is no plain
memory, and the four registers of the memory controller and the interrupt module are each at one physical address.
`expanded` says whether there is a program window. -/
structure Phys where
  expanded : Bool
  regions : List Region
  areas : List Area
  ppageAt : Option Nat
  gpageAt : Option Nat
  directAt : Option Nat
  vectorBaseAt : Option Nat
  deriving DecidableEq, Repr

/-- The parameters that no step changes (R8): the version, whether BDM is enabled, the memory map, and what a reset
leaves in the registers of the memory controller and the interrupt module (92_eei_decisions.md section 2; log 7). -/
structure Cfg where
  version : Version
  bdmEnabled : Bool
  phys : Phys
  ppage0 : Byte
  gpage0 : BitVec 7
  direct0 : Byte
  vectorBase0 : Byte
  deriving DecidableEq, Repr

/-- The kinds of reset (R683). -/
inductive ResetKind where
  | powerOn
  | clockMonitor
  | cop
  deriving DecidableEq, Repr

/-- An instruction the debug module forces in place of the next one (R549). -/
inductive Forced where
  | swi
  | bgnd
  deriving DecidableEq, Repr

/-- A pending I-maskable request: the low byte of its vector address and its level, which exists on CPU12X (R624). -/
structure Irq where
  vec : Byte
  level : BitVec 3
  deriving DecidableEq, Repr

/-- The inputs of one step boundary (R624, D12), with the debugger's two inputs of R548 and R549 (log 32). -/
structure Env where
  reset : Option ResetKind
  nmi : Option Byte
  xirq : Bool
  irqs : List Irq
  xirqLevel : BitVec 3
  nmiLevel : BitVec 3
  forced : Option Forced
  resume : Bool
  deriving DecidableEq, Repr

/-- No request; the levels are the spec's default, 7 (D28). -/
def Env.quiet : Env :=
  { reset := none, nmi := none, xirq := false, irqs := [], xirqLevel := 7#3, nmiLevel := 7#3, forced := none,
    resume := false }

/-- The state. `tick`, `stale`, `pageStored`, `rtiFrame` and the stamps of the temporaries are the model's own (log 8, 9,
13, 28, 43). -/
structure State where
  cfg : Cfg
  a : Byte
  b : Byte
  x : Word
  y : Word
  sp : Word
  pc : Word
  ccr : Ccr
  ccrh : Ccrh
  tmp1 : Tmp
  tmp2 : Tmp
  tmp3 : Tmp
  ppage : Byte
  gpage : BitVec 7
  direct : Byte
  vectorBase : Byte
  run : RunState
  iDelay : Bool
  wav : Option WavSums
  mem : Mem
  inputs : List Env
  tick : Nat
  stale : List Word
  pageStored : Bool
  rtiFrame : Bool
  deriving DecidableEq, Repr

/-- Why the machine stops with a fault: never. The exception list holds no fault and no instruction can fault (R648,
R88), so this type has no constructor; safe. -/
inductive Fault where
  deriving DecidableEq, Repr

/-- Why a step has no next state. -/
inductive Refusal where
  /-- Raised by an arm of `exec` whose instruction has no meaning yet; no arm does. Safe. -/
  | notModelled (mnemonic : String)
  /-- Raised by the fetch: an indexed postbyte of a form the instruction does not accept, which the spec says to refuse
  (R112, U4). Safe. -/
  | reservedIndexedForm
  /-- Raised by the fetch: a reserved loop postbyte, which the spec says to refuse (R126, U6). Safe. -/
  | reservedLoopPostbyte
  /-- Raised by the fetch: a transfer postbyte with bit 3 set on CPU12V1, which the spec says to refuse (R205, U5).
  Safe. -/
  | reservedTransferBit3
  /-- Raised by the fetch if the eight bytes at the PC do not hold a whole instruction, which no byte sequence
  causes (R90). Safe. -/
  | longInstruction
  /-- Raised by the fetch: a byte of the instruction has been stored to while it may have been in the instruction queue,
  or PPAGE has been changed under it by a store, which the spec says to refuse (R86, R696, D7, U20, U24). Safe. -/
  | storedIntoQueue
  /-- Raised by the step: an instruction with a byte in the program window of an expanded map has stored to PPAGE, after
  which the spec defines no continuation (R696, U20). Safe. -/
  | pageStoredInWindow
  deriving DecidableEq, Repr

/-- The map a model takes when none is supplied (R65, D8, D10): every access reaches a place of its own, all of it plain
memory, with no window and no register mapped (log 2). -/
def Phys.plain : Phys :=
  { expanded := false, regions := [], areas := [], ppageAt := none, gpageAt := none, directAt := none,
    vectorBaseAt := none }

/-- The machine right after a power-on reset (70_reset_and_hazards.md R680 to R682): S, X and I set, U and IPL clear,
the PC read from the reset vector of a memory with nothing listed. The registers R682 leaves open hold the values log 5,
6 and 7 name; the version and the parameters are those of log 1, 2 and 3. -/
def State.reset : State :=
  { cfg :=
      { version := .cpu12xv0, bdmEnabled := false, phys := Phys.plain, ppage0 := 0#8, gpage0 := 0#7, direct0 := 0#8,
        vectorBase0 := 0xFF#8 }
    a := 0#8
    b := 0#8
    x := 0#16
    y := 0#16
    sp := 0#16
    pc := joinBytes (Mem.get [] 0xFFFE) (Mem.get [] 0xFFFF)
    ccr := { s := true, x := true, h := false, i := true, n := false, z := false, v := false, c := false }
    ccrh := { u := false, ipl := 0#3 }
    tmp1 := { value := 0#16, stamp := 0 }
    tmp2 := { value := 0#16, stamp := 0 }
    tmp3 := { value := 0#16, stamp := 0 }
    ppage := 0#8
    gpage := 0#7
    direct := 0#8
    vectorBase := 0xFF#8
    run := .running
    iDelay := false
    wav := none
    mem := []
    inputs := []
    tick := 0
    stale := []
    pageStored := false
    rtiFrame := false }

end Sys2Proof.Machine
end

