-- ==== Sys2Proof/Machine/Update.lean ====
section
/-!
DEFINITION. One named update per field of the state, and the double accumulator D, which is the view A:B and no storage
of its own (10_state.md R21). What each update leaves alone is said once, in Sys2Proof/Laws/State.lean.
-/

namespace Sys2Proof.Machine

/-- Accumulator A (R20). -/
def State.setA (s : State) (v : Byte) : State := { s with a := v }

/-- Accumulator B (R20). -/
def State.setB (s : State) (v : Byte) : State := { s with b := v }

/-- Index register X (R22). -/
def State.setX (s : State) (v : Word) : State := { s with x := v }

/-- Index register Y (R22). -/
def State.setY (s : State) (v : Word) : State := { s with y := v }

/-- The stack pointer (R23). -/
def State.setSp (s : State) (v : Word) : State := { s with sp := v }

/-- The program counter (R24). -/
def State.setPc (s : State) (v : Word) : State := { s with pc := v }

/-- The whole CCR, without the rules of a CCR write (R25). -/
def State.setCcr (s : State) (v : Ccr) : State := { s with ccr := v }

/-- The whole CCRH, without the rules of a CCRH write (R26). -/
def State.setCcrh (s : State) (v : Ccrh) : State := { s with ccrh := v }

/-- TMP1 (R39). -/
def State.setTmp1 (s : State) (v : Tmp) : State := { s with tmp1 := v }

/-- TMP2 (R39). -/
def State.setTmp2 (s : State) (v : Tmp) : State := { s with tmp2 := v }

/-- TMP3 (R39). -/
def State.setTmp3 (s : State) (v : Tmp) : State := { s with tmp3 := v }

/-- PPAGE (R41). -/
def State.setPpage (s : State) (v : Byte) : State := { s with ppage := v }

/-- GPAGE (R42). -/
def State.setGpage (s : State) (v : BitVec 7) : State := { s with gpage := v }

/-- DIRECT (R43). -/
def State.setDirect (s : State) (v : Byte) : State := { s with direct := v }

/-- The vector base (R44). -/
def State.setVectorBase (s : State) (v : Byte) : State := { s with vectorBase := v }

/-- The run state (R46). -/
def State.setRun (s : State) (v : RunState) : State := { s with run := v }

/-- The one-instruction inhibit (R47). -/
def State.setIDelay (s : State) (v : Bool) : State := { s with iDelay := v }

/-- The sums of a WAV between two iterations (R40). -/
def State.setWav (s : State) (v : Option WavSums) : State := { s with wav := v }

/-- Memory (R60). -/
def State.setMem (s : State) (v : Mem) : State := { s with mem := v }

/-- The inputs still to come (R624). -/
def State.setInputs (s : State) (v : List Env) : State := { s with inputs := v }

/-- The counter of the free values (log 9). -/
def State.setTick (s : State) (v : Nat) : State := { s with tick := v }

/-- The bytes stored to while queued (log 13). -/
def State.setStale (s : State) (v : List Word) : State := { s with stale := v }

/-- This step has stored to PPAGE in an expanded map (log 43). -/
def State.setPageStored (s : State) (v : Bool) : State := { s with pageStored := v }

/-- RTI has just pulled a frame (log 28). -/
def State.setRtiFrame (s : State) (v : Bool) : State := { s with rtiFrame := v }

/-- The double accumulator, A in the high byte (R21). -/
def State.d (s : State) : Word := joinBytes s.a s.b

/-- Writes D: both accumulators (R21). -/
def State.setD (s : State) (v : Word) : State := (s.setA (hiByte v)).setB (loByte v)

end Sys2Proof.Machine
end

