-- ==== Sys2Proof/Machine/Flags.lean ====
section
/-!
DEFINITION. The condition codes: the bytes CCR and CCRH, the standard flag functions (00_scope.md R15) and the write
paths every instruction that writes the CCR goes through (40_load_store_transfer_move.md R200, R201).
-/

namespace Sys2Proof.Machine

/-! ## The registers as bytes -/

/-- CCR as a byte, `S:XM:H:I:N:Z:V:C` (R14, R25). -/
def Ccr.toByte (r : Ccr) : Byte :=
  BitVec.ofBool r.s ++ BitVec.ofBool r.x ++ BitVec.ofBool r.h ++ BitVec.ofBool r.i ++ BitVec.ofBool r.n ++
    BitVec.ofBool r.z ++ BitVec.ofBool r.v ++ BitVec.ofBool r.c

/-- The eight bits of a byte as a CCR (R25). -/
def Ccr.ofByte (b : Byte) : Ccr :=
  { s := b.getLsbD 7, x := b.getLsbD 6, h := b.getLsbD 5, i := b.getLsbD 4, n := b.getLsbD 3, z := b.getLsbD 2,
    v := b.getLsbD 1, c := b.getLsbD 0 }

/-- CCRH as a byte, `U:0000:IPL`: the reserved bits read 0 (R26, D20). -/
def Ccrh.toByte (r : Ccrh) : Byte := BitVec.ofBool r.u ++ 0#4 ++ r.ipl

/-- The CCR read as a byte. -/
def State.ccrByte (s : State) : Byte := s.ccr.toByte

/-- CCRH read as a byte. -/
def State.ccrhByte (s : State) : Byte := s.ccrh.toByte

/-- CCRW, `CCRH:CCR` (R26). -/
def State.ccrw (s : State) : Word := joinBytes s.ccrhByte s.ccrByte

/-! ## Standard flag functions (R15), on operands and result of one width -/

/-- Carry out of the top bit of `r = p + q (+ c)`. -/
def carryAdd {n : Nat} (p q r : BitVec n) : Bool :=
  (p.msb && q.msb) || (q.msb && !r.msb) || (!r.msb && p.msb)

/-- Two's-complement overflow of `r = p + q (+ c)`. -/
def overflowAdd {n : Nat} (p q r : BitVec n) : Bool :=
  (p.msb && q.msb && !r.msb) || (!p.msb && !q.msb && r.msb)

/-- Carry out of bit 3 of an 8-bit addition. -/
def halfAdd (p q r : Byte) : Bool :=
  (p.getLsbD 3 && q.getLsbD 3) || (q.getLsbD 3 && !r.getLsbD 3) || (!r.getLsbD 3 && p.getLsbD 3)

/-- Borrow of `r = p - q (- c)`. -/
def borrowSub {n : Nat} (p q r : BitVec n) : Bool :=
  (!p.msb && q.msb) || (q.msb && r.msb) || (r.msb && !p.msb)

/-- Two's-complement overflow of `r = p - q (- c)`. -/
def overflowSub {n : Nat} (p q r : BitVec n) : Bool :=
  (p.msb && !q.msb && !r.msb) || (!p.msb && q.msb && r.msb)

/-- N and Z from a result (R15, R32, R33). -/
def Ccr.nz {n : Nat} (f : Ccr) (r : BitVec n) : Ccr := { f with n := r.msb, z := r == 0 }

/-- N and Z from a result, V cleared: loads, stores, logic (R15). -/
def Ccr.nzv0 {n : Nat} (f : Ccr) (r : BitVec n) : Ccr := { f with n := r.msb, z := r == 0, v := false }

/-- The carry flag as a number added to a sum. -/
def carryIn (n : Nat) (c : Bool) : BitVec n := if c then 1 else 0

/-! ## The write paths -/

/-- CPU12XV2 in user state (R37, R660). -/
def State.userState (s : State) : Bool := s.cfg.version.hasUser && s.ccrh.u

/-- The CCR a write leaves: in user state only H, N, Z, V, C; else everything, X only from 1 to 0 (R200, R28). -/
def writtenCcr (user : Bool) (old : Ccr) (v : Byte) : Ccr :=
  let new := Ccr.ofByte v
  if user then { old with h := new.h, n := new.n, z := new.z, v := new.v, c := new.c }
  else { new with x := old.x && new.x }

/-- A CCR write made with `user` the privilege of the writing instruction: the new bits, and the one-instruction
inhibit when I goes from 1 to 0 (R200, R692, D26). -/
def State.writeCcrAs (s : State) (user : Bool) (v : Byte) : State :=
  let new := writtenCcr user s.ccr v
  let s' := s.setCcr new
  if s.ccr.i && !new.i then s'.setIDelay true else s'

/-- `WriteCCR(v)` (R200). -/
def State.writeCcr (s : State) (v : Byte) : State := s.writeCcrAs s.userState v

/-- The CCRH a write leaves: nothing changes in user state; U exists on CPU12XV2 only, IPL on CPU12X only; the reserved
bits are ignored (R201, R36, R37, D20). -/
def writtenCcrh (version : Version) (user : Bool) (old : Ccrh) (v : Byte) : Ccrh :=
  if user then old
  else { u := version.hasUser && v.getLsbD 7, ipl := if version.isX then v.extractLsb' 0 3 else 0#3 }

/-- `WriteCCRH(v)` (R201). -/
def State.writeCcrh (s : State) (v : Byte) : State :=
  s.setCcrh (writtenCcrh s.cfg.version s.userState s.ccrh v)

/-- `WriteCCRW(w)`: both halves use the U of before the instruction (R201). -/
def State.writeCcrw (s : State) (w : Word) : State :=
  (s.writeCcrh (hiByte w)).writeCcrAs s.userState (loByte w)

/-- The flags alone, by an instruction that computes them. -/
def State.flags (s : State) (f : Ccr → Ccr) : State := s.setCcr (f s.ccr)

end Sys2Proof.Machine
end

