-- ==== Sys2Proof/Machine/Alu.lean ====
section
/-!
DEFINITION. What the arithmetic and logic unit computes: for each operation the result and the condition codes it
leaves, at either width (the common-shape rules R230, R238, R250, R251, R265, R270, R315, R325, R358, R367, R410 to
R450, R492).
-/

namespace Sys2Proof.Machine

/-- An operation on one operand: the CCR and the operand give the result and the new CCR. -/
abbrev Alu1 (n : Nat) := Ccr → BitVec n → BitVec n × Ccr

/-- An operation on a register and an operand: the CCR, the register and the operand give the result and the new
CCR. -/
abbrev Alu2 (n : Nat) := Ccr → BitVec n → BitVec n → BitVec n × Ccr

/-- 8-bit addition, with the old C added in or not (R230). -/
def aluAdd8 (withCarry : Bool) : Alu2 8 := fun f p q =>
  let r := p + q + carryIn 8 (withCarry && f.c)
  (r, { f with h := halfAdd p q r, n := r.msb, z := r == 0, v := overflowAdd p q r, c := carryAdd p q r })

/-- Z of a result: plain, or sticky, which only a zero result leaves set (R251). -/
def zeroFlag {n : Nat} (sticky : Bool) (f : Ccr) (r : BitVec n) : Bool := if sticky then f.z && r == 0 else r == 0

/-- 16-bit addition; the extended form adds the old C and has a sticky Z (R238, R251). -/
def aluAdd16 (extended : Bool) : Alu2 16 := fun f p q =>
  let r := p + q + carryIn 16 (extended && f.c)
  (r, { f with n := r.msb, z := zeroFlag extended f r, v := overflowAdd p q r, c := carryAdd p q r })

/-- Subtraction at either width, with the old C taken off or not, with a plain or a sticky Z (R250, R251, R300). -/
def aluSub {n : Nat} (withBorrow sticky : Bool) : Alu2 n := fun f p q =>
  let r := p - q - carryIn n (withBorrow && f.c)
  (r, { f with n := r.msb, z := zeroFlag sticky f r, v := overflowSub p q r, c := borrowSub p q r })

/-- A Boolean operation (R325). -/
def aluLogic {n : Nat} (op : BitVec n → BitVec n → BitVec n) : Alu2 n := fun f p q =>
  let r := op p q
  (r, f.nzv0 r)

/-- Decrement: C is not affected (R270). -/
def aluDec {n : Nat} : Alu1 n := fun f p =>
  let r := p - 1
  (r, { f with n := r.msb, z := r == 0, v := p == BitVec.intMin n })

/-- Increment: C is not affected (R270). -/
def aluInc {n : Nat} : Alu1 n := fun f p =>
  let r := p + 1
  (r, { f with n := r.msb, z := r == 0, v := p == BitVec.intMax n })

/-- One's complement (R358). -/
def aluCom {n : Nat} : Alu1 n := fun f p =>
  let r := ~~~p
  (r, { f with n := r.msb, z := r == 0, v := false, c := true })

/-- Two's complement (R367). -/
def aluNeg {n : Nat} : Alu1 n := fun f p =>
  let r := 0 - p
  (r, { f with n := r.msb, z := r == 0, v := r == BitVec.intMin n, c := r != 0 })

/-- Test: the operand stays as it is (R315). -/
def aluTst {n : Nat} : Alu1 n := fun f p => (p, { f with n := p.msb, z := p == 0, v := false, c := false })

/-- Flags of every shift and rotate: N and Z from the result, C the bit shifted out, V their exclusive or (R410). -/
def shiftFlags {n : Nat} (f : Ccr) (r : BitVec n) (out : Bool) : Ccr :=
  { f with n := r.msb, z := r == 0, v := r.msb ^^ out, c := out }

/-- Shift left (R411). -/
def aluAsl {n : Nat} : Alu1 n := fun f p =>
  let r := p <<< 1
  (r, shiftFlags f r p.msb)

/-- Arithmetic shift right (R420). -/
def aluAsr {n : Nat} : Alu1 n := fun f p =>
  let r := p.sshiftRight 1
  (r, shiftFlags f r (p.getLsbD 0))

/-- Logical shift right (R430). -/
def aluLsr {n : Nat} : Alu1 n := fun f p =>
  let r := p >>> 1
  (r, shiftFlags f r (p.getLsbD 0))

/-- Rotate left through C (R440). -/
def aluRol {n : Nat} : Alu1 n := fun f p =>
  let r := p <<< 1 ||| carryIn n f.c
  (r, shiftFlags f r p.msb)

/-- Rotate right through C (R450). -/
def aluRor {n : Nat} : Alu1 n := fun f p =>
  let r := p >>> 1 ||| carryIn n f.c <<< (n - 1)
  (r, shiftFlags f r (p.getLsbD 0))

/-- The flags of a cleared operand (R350). -/
def clearedFlags (f : Ccr) : Ccr := { f with n := false, z := true, v := false, c := false }

/-- The low digit needs correction after a BCD addition (R265, D21). -/
def daaLow (f : Ccr) (a : Byte) : Bool := (9 < (a.extractLsb' 0 4).toNat) || f.h

/-- The high digit needs correction after a BCD addition (R265, D21). -/
def daaHigh (f : Ccr) (a : Byte) : Bool :=
  (9 < (a.extractLsb' 4 4).toNat) || f.c || ((a.extractLsb' 4 4).toNat == 9 && 9 < (a.extractLsb' 0 4).toNat)

/-- The correction factor of DAA (R265, D21). -/
def daaFactor (f : Ccr) (a : Byte) : Byte :=
  (if daaHigh f a then 0x60#8 else 0#8) + (if daaLow f a then 0x06#8 else 0#8)

/-- Decimal adjust; V takes the value it is given, which the spec leaves undefined (R265, U7). -/
def aluDaa (undefinedV : Bool) : Alu1 8 := fun f a =>
  let r := a + daaFactor f a
  (r, { f with n := r.msb, z := r == 0, v := undefinedV, c := daaHigh f a })

/-- Table interpolation: entries unsigned, difference and product exact, the fraction dropped towards minus infinity, C
its first bit (R492, D24). -/
def aluTable {n : Nat} (f : Ccr) (frac : Byte) (y1 y2 : BitVec n) : BitVec n × Ccr :=
  let p : Int := (frac.toNat : Int) * ((y2.toNat : Int) - (y1.toNat : Int))
  let r := BitVec.ofInt n ((y1.toNat : Int) + p / 256)
  (r, { f with n := r.msb, z := r == 0, c := decide (128 ≤ p % 256) })

end Sys2Proof.Machine
end

