-- ==== Sys2Proof/Machine/Ops.lean ====
section
/-!
DEFINITION. The shared operations: memory in its three spaces, the stack, free values, change of flow, taking an
exception (60_exceptions.md R621) and the return from one (47_jump_call_interrupt.md R541).
-/

namespace Sys2Proof.Machine

/-- What every meaning answers. -/
abbrev Result := Host.Outcome State Fault Refusal

/-! ## Where an access goes (20_memory.md R60, R65 to R68) -/

/-- What lies at an address: a cell of memory by its key, an address with no memory, a device, or a mapped register of
the memory controller or the interrupt module. -/
inductive Loc where
  | cell (key : Nat)
  | void (key : Nat)
  | device (key : Nat)
  | ppage
  | gpage
  | direct
  | vectorBase
  deriving DecidableEq, Repr

/-- The program window $8000 to $BFFF (R68). -/
def inWindow (a : Word) : Bool := 0x8000 ≤ a.toNat && a.toNat < 0xC000

/-- Number of the first access to paged program memory: page after page of 16 KB. -/
def windowBase : Nat := 0x10000

/-- Number of the first access to global memory: 8 MB (R67). -/
def globalBase : Nat := 0x800000

/-- The number of an access to a local address: by the page PPAGE selects in the window of an expanded map, by the address
itself elsewhere (R68; log 29). -/
def State.localKey (s : State) (a : Word) : Nat :=
  if s.cfg.phys.expanded && inWindow a then windowBase + s.ppage.toNat * 0x4000 + (a.toNat - 0x8000) else a.toNat

/-- The number of an access to a global address (R67). -/
def globalKey (page : BitVec 7) (a : Word) : Nat := globalBase + page.toNat * 0x10000 + a.toNat

/-- The physical address of an access: where the first region that holds its block takes it, its own number where none
does (R8, D10; log 2). -/
def Phys.physical (p : Phys) (key : Nat) : Nat :=
  match p.regions.find? (fun r => r.first ≤ key / 16 && key / 16 ≤ r.last) with
  | some r => 16 * (r.target + (key / 16 - r.first)) + key % 16
  | none => key

/-- What the first area that holds a physical address says of it; plain memory where none does. -/
def Phys.areaAt (p : Phys) (k : Nat) : Option AreaKind :=
  (p.areas.find? fun r => r.first ≤ k && k ≤ r.last).map Area.kind

/-- What lies behind an access (R41 to R44, R65, R88; log 2, log 39, log 42). -/
def State.locAt (s : State) (key : Nat) : Loc :=
  let p := s.cfg.phys
  let k := p.physical key
  let isX := s.cfg.version.isX
  if p.ppageAt = some k then .ppage
  else if isX && p.gpageAt == some k then .gpage
  else if isX && p.directAt == some k then .direct
  else if isX && p.vectorBaseAt == some k then .vectorBase
  else match p.areaAt k with
    | none => .cell k
    | some .readOnly => .cell k
    | some .absent => .void k
    | some .device => .device k

/-- What lies at a local address. -/
def State.locate (s : State) (a : Word) : Loc := s.locAt (s.localKey a)

/-- The byte at GPAGE's address: the seven bits of GPAGE, and above them a bit whose value the spec does not state (R42,
R67). DESIGN CHOICE, safe: GPAGE is bits 6 to 0 of that byte and bit 7 reads as a free value (log 39). -/
def State.gpageByte (s : State) (page : BitVec 7) : Byte := BitVec.ofBool (Config.gpageTop s.tick) ++ page

/-- The byte a location reads as; with no memory there (R88, U23; log 37), from a device (log 42), and in bit 7 of GPAGE
(log 39), a free value. -/
def State.peek (s : State) : Loc → Byte
  | .cell k => s.mem.get k
  | .void k => Config.openBus k s.tick
  | .device k => Config.deviceRead k s.tick
  | .ppage => s.ppage
  | .gpage => s.gpageByte s.gpage
  | .direct => s.direct
  | .vectorBase => s.vectorBase

/-- The addresses of the eight bytes from `a` on: what the queue may hold, and as many bytes as the longest instruction
has (R86, R90). -/
def eightFrom (a : Word) : List Word := (List.range 8).map fun k => a + BitVec.ofNat 16 k

/-- The byte at a cell can be written. DESIGN CHOICE, unsafe: a write to read-only memory is ignored; the spec says so of
an address with no memory alone (R88; log 42). -/
def Phys.writable (p : Phys) (k : Nat) : Bool := p.areaAt k != some .readOnly

/-- Stores a byte at a location; with no memory there the write is ignored (R88), and a device takes it with no effect on
this machine (log 42). A store to PPAGE changes what stands in the window under the bytes already queued, and is recorded
for the step to see (R696, U20; log 13, log 43). DESIGN CHOICE, unsafe: PPAGE, GPAGE, DIRECT and the vector base take every
store to their address, DIRECT too, of which the spec leaves open whether it is write-once (91_not_in_source.md N6; log
39). -/
def State.poke (s : State) (l : Loc) (v : Byte) : State :=
  match l with
  | .cell k => if s.cfg.phys.writable k then s.setMem (s.mem.set k v) else s
  | .void _ => s
  | .device _ => s
  | .ppage =>
    if s.cfg.phys.expanded then
      ((s.setPpage v).setStale ((eightFrom s.pc).filter inWindow ++ s.stale)).setPageStored true
    else s.setPpage v
  | .gpage => s.setGpage (v.extractLsb' 0 7)
  | .direct => s.setDirect v
  | .vectorBase => s.setVectorBase v

/-- Marks the addresses that lie at a location stored to while their old content may be in the queue: those of the eight
bytes after the storing instruction, whichever address the store itself used (R86, D7; log 13). -/
def State.markStale (s : State) (l : Loc) : State :=
  s.setStale ((eightFrom s.pc).filter (fun q => s.locate q == l) ++ s.stale)

/-- A store of one byte, by any kind of access. -/
def State.store (s : State) (l : Loc) (v : Byte) : State := (s.markStale l).poke l v

/-! ## Accesses of the 64 KB space (R61, R62, R64) -/

/-- `MemRead(a, 1)`. -/
def State.read8 (s : State) (a : Word) : Byte := s.peek (s.locate a)

/-- `MemWrite(a, 1, v)`. -/
def State.write8 (s : State) (a : Word) (v : Byte) : State := s.store (s.locate a) v

/-- `MemRead(a, 2)`: the high byte at the lower address, which wraps (R61, R62). -/
def State.read16 (s : State) (a : Word) : Word := joinBytes (s.read8 a) (s.read8 (a + 1#16))

/-- `MemWrite(a, 2, v)`. DESIGN CHOICE, unsafe: the high byte is stored first and the low byte goes where the map then puts
its address. The spec leaves the order of the two bytes open (R64, U15; log 36). It shows where one byte lands in PPAGE and
the other in the program window: a low byte in the window goes to the new page, a high byte there to the old one. In memory
the two are one access (D4). -/
def State.write16 (s : State) (a : Word) (v : Word) : State := (s.write8 a (hiByte v)).write8 (a + 1#16) (loByte v)

/-! ## Accesses of the global space (R67, R171) -/

/-- `GMemRead`, one byte. -/
def State.gread8 (s : State) (page : BitVec 7) (a : Word) : Byte := s.peek (s.locAt (globalKey page a))

/-- `GMemWrite`, one byte. -/
def State.gwrite8 (s : State) (page : BitVec 7) (a : Word) (v : Byte) : State :=
  s.store (s.locAt (globalKey page a)) v

/-- The page of the second byte of a global word: the same, but at offset $FFFF, where the carry is free (U14;
log 11). -/
def State.gnextPage (s : State) (a : Word) : BitVec 7 :=
  if a = 0xFFFF#16 && Config.globalCarry s.tick then s.gpage + 1#7 else s.gpage

/-- `GMemRead`, one word. -/
def State.gread16 (s : State) (a : Word) : Word :=
  joinBytes (s.gread8 s.gpage a) (s.gread8 (s.gnextPage a) (a + 1#16))

/-- `GMemWrite`, one word, the high byte first. -/
def State.gwrite16 (s : State) (a : Word) (v : Word) : State :=
  (s.gwrite8 s.gpage a (hiByte v)).gwrite8 (s.gnextPage a) (a + 1#16) (loByte v)

/-! ## The stack (R14, R70): full, descending -/

/-- `Push8(v)`. -/
def State.push8 (s : State) (v : Byte) : State := (s.setSp (s.sp - 1#16)).write8 (s.sp - 1#16) v

/-- `Push16(v)`: the high byte at the lower address. -/
def State.push16 (s : State) (v : Word) : State := (s.setSp (s.sp - 2#16)).write16 (s.sp - 2#16) v

/-- The byte on top of the stack. -/
def State.top8 (s : State) : Byte := s.read8 s.sp

/-- The word on top of the stack. -/
def State.top16 (s : State) : Word := s.read16 s.sp

/-- Moves SP up by `n` bytes, after a pull. -/
def State.drop (s : State) (n : Nat) : State := s.setSp (s.sp + BitVec.ofNat 16 n)

/-! ## Free values (log 8, log 9) -/

/-- A flag the spec leaves undefined. -/
def State.freeFlag (s : State) (which : Draw) : Bool := Config.freeFlag which s.tick

/-- A byte the spec leaves undefined. -/
def State.freeByte (s : State) (which : Draw) : Byte := Config.freeByte which s.tick

/-- A word the spec leaves undefined. -/
def State.freeWord (s : State) (which : Draw) : Word := Config.freeWord which s.tick

/-- A temporary read by TFR or EXG: what the instruction before wrote to it, else a free value (R39, D17; log 8). -/
def State.readTmp (s : State) (number : Nat) (t : Tmp) : Word :=
  if t.stamp = s.tick then t.value else Config.freeTmp number s.tick

/-- A temporary written by TFR or EXG: known in the next step (R39, D17; log 8). -/
def State.tmpWritten (s : State) (v : Word) : Tmp := { value := v, stamp := s.tick + 1 }

/-! ## Change of flow -/

/-- `PC <- target`, a taken change of flow: the queue is refilled from memory (R85, R86). -/
def State.jump (s : State) (target : Word) : State := (s.setPc target).setStale []

/-- The target of a relative branch: relative to the next instruction (R100). -/
def State.relative (s : State) (offset : Word) : Word := s.pc + offset

/-- A branch taken when the condition holds. -/
def State.branchIf (s : State) (taken : Bool) (offset : Word) : State :=
  if taken then s.jump (s.relative offset) else s

/-! ## Taking an exception (60_exceptions.md section 3) -/

/-- What starts an exception other than a reset, with the level the request carries (R621, R642). -/
inductive EntryKind where
  | software
  | irq (level : BitVec 3)
  | xirq (level : BitVec 3)
  | nmi (level : BitVec 3)
  deriving DecidableEq, Repr

/-- The high byte of vector addresses: the vector base on CPU12X, $FF on CPU12 (R44, R633, D13). -/
def State.vectorPage (s : State) : Byte := if s.cfg.version.isX then s.vectorBase else 0xFF#8

/-- The word at a vector (R635). -/
def State.vector (s : State) (vec : Byte) : Word := s.read16 (joinBytes s.vectorPage vec)

/-- Size of the stack frame: 9 bytes on CPU12, 10 on CPU12X (R622). -/
def State.frameSize (s : State) : Nat := if s.cfg.version.isX then 10 else 9

/-- Pushes CCR on CPU12, CCRW on CPU12X (R621 step 6). -/
def State.pushCcr (s : State) : State := if s.cfg.version.isX then s.push16 s.ccrw else s.push8 s.ccrByte

/-- `StackFrame(RTN)`: return address, Y, X, B:A, CCR or CCRW (R595, R621 steps 2 to 6, R622). -/
def State.stackFrame (s : State) (rtn : Word) : State :=
  ((((s.push16 rtn).push16 s.y).push16 s.x).push16 (joinBytes s.b s.a)).pushCcr

/-- CCR after an entry: I set, X set by XIRQ only (R640, R641). -/
def entryCcr (kind : EntryKind) (f : Ccr) : Ccr :=
  match kind with
  | .software => { f with i := true }
  | .irq _ => { f with i := true }
  | .xirq _ => { f with i := true, x := true }
  | .nmi _ => { f with i := true }

/-- CCRH after an entry: U cleared, IPL the level of a hardware request on CPU12X (R642, R643, D28). -/
def entryCcrh (version : Version) (kind : EntryKind) (f : Ccrh) : Ccrh :=
  let ipl := match kind with
    | .software => f.ipl
    | .irq level => if version.isX then level else f.ipl
    | .xirq level => if version.isX then level else f.ipl
    | .nmi level => if version.isX then level else f.ipl
  { u := if version.hasUser then false else f.u, ipl := ipl }

/-- The end of every entry, after the stacking: masks, privilege, level, inhibit, PC, run state (R621 steps 7, 8). -/
def State.startHandler (s : State) (kind : EntryKind) (handler : Word) : State :=
  ((((s.setCcr (entryCcr kind s.ccr)).setCcrh (entryCcrh s.cfg.version kind s.ccrh)).setIDelay false).setRun
    .running).jump handler

/-- `Enter(vec, RTN, kind)`: the vector is read before the stacking (R621, C30). -/
def State.enter (s : State) (vec : Byte) (rtn : Word) (kind : EntryKind) : State :=
  (s.stackFrame rtn).startHandler kind (s.vector vec)

/-- An entry with the frame already on the stack: from WAI or STOP (R598, R599, R647). -/
def State.enterStacked (s : State) (vec : Byte) (kind : EntryKind) : State := s.startHandler kind (s.vector vec)

/-- An entry right after an RTI: SP goes back to the frame just pulled, nothing is written (R542). -/
def State.reenter (s : State) (vec : Byte) (kind : EntryKind) : State :=
  (s.setSp (s.sp - BitVec.ofNat 16 s.frameSize)).startHandler kind (s.vector vec)

/-- The unimplemented opcode trap: vector $F8, the return address the next address after the opcode (R546, R547,
R628, D14). -/
def State.trap (s : State) : State := s.enter 0xF8#8 s.pc .software

/-! ## Returning from an exception (R541) -/

/-- Pulls CCR on CPU12, CCRW on CPU12X, through the CCR write paths. -/
def State.pullCcr (s : State) : State :=
  if s.cfg.version.isX then (s.drop 2).writeCcrw s.top16 else (s.drop 1).writeCcr s.top8

/-- The return from an exception: the frame is pulled in the order CCR, B:A, X, PC, Y (R541, C6). The inhibit does not
apply to it (R692), and an entry at the next boundary uses the frame again (R542; log 28). -/
def State.returnFromException (s : State) : State :=
  let s1 := s.pullCcr.setIDelay false
  let ba := s1.top16
  let s2 := ((s1.drop 2).setB (hiByte ba)).setA (loByte ba)
  let s3 := (s2.drop 2).setX s2.top16
  let pc := s3.read16 (s3.sp + 2#16)
  let y := s3.read16 s3.sp
  (((s3.setY y).drop 4).jump pc).setRtiFrame true

/-! ## Reset (70_reset_and_hazards.md R680) -/

/-- The low byte of a reset vector's address (R683). -/
def ResetKind.vec : ResetKind → Byte
  | .powerOn => 0xFE#8
  | .clockMonitor => 0xFC#8
  | .cop => 0xFA#8

/-- The registers of the memory controller and the interrupt module take the values a reset gives them, which are
parameters (R681, R682, D13; log 7). -/
def State.mcuReset (s : State) : State :=
  (((s.setPpage s.cfg.ppage0).setGpage s.cfg.gpage0).setDirect s.cfg.direct0).setVectorBase s.cfg.vectorBase0

/-- A reset during a run: S, X, I set, U and IPL cleared, PC from the vector at $FF:vec, nothing stacked, memory
unchanged; the registers and flags R682 leaves open are drawn afresh (U19; log 31). DEDUCED, unsafe: the MCU
registers take their reset values before the vector is fetched. The spec's sequence does not name them, and D13 says so of
the interrupt module alone. It shows only where the map puts one of them behind $FFFA to $FFFF (log 7). -/
def State.resetSequence (s : State) (kind : ResetKind) : State :=
  let v := s.mcuReset.read16 (joinBytes 0xFF#8 kind.vec)
  let f : Ccr :=
    { s := true, x := true, i := true, h := s.freeFlag .h, n := s.freeFlag .n, z := s.freeFlag .z,
      v := s.freeFlag .v, c := s.freeFlag .c }
  let s1 := (((s.setA (s.freeByte .a)).setB (s.freeByte .b)).setX (s.freeWord .x)).setY (s.freeWord .y)
  let s2 := ((s1.setSp (s.freeWord .sp)).setCcr f).setCcrh { u := false, ipl := 0#3 }
  let s3 := (s2.mcuReset.setIDelay false).setRun .running
  (((s3.setWav none).setRtiFrame false).setPageStored false).jump v

end Sys2Proof.Machine
end

