-- ==== Sys2Proof/Machine/Operands.lean ====
section
/-!
DEFINITION. Operands: the effective address of every addressing mode with its side effects, and the operand values of
the instructions (30_encoding.md R96 to R112).
-/

namespace Sys2Proof.Machine

/-- The value of a base register; the PC is the address `pcBase`, NextPC for every operand but one (R101, R108). -/
def State.base (s : State) (pcBase : Word) : IdxReg → Word
  | .x => s.x
  | .y => s.y
  | .sp => s.sp
  | .pc => pcBase

/-- An auto-modified register (R102). -/
def State.autoReg (s : State) : AutoReg → Word
  | .x => s.x
  | .y => s.y
  | .sp => s.sp

/-- Writes an auto-modified register (R102). -/
def State.setAutoReg (s : State) (r : AutoReg) (v : Word) : State :=
  match r with
  | .x => s.setX v
  | .y => s.setY v
  | .sp => s.setSp v

/-- The adjustment of the field `nnnn`: `0000` is +1, `0111` is +8, `1000` is -8, `1111` is -1 (R102). -/
def autoDelta (n : BitVec 4) : Word := if n.msb then n.signExtend 16 else n.zeroExtend 16 + 1#16

/-- The unsigned offset in an accumulator (R103). -/
def State.accOffset (s : State) : AccOff → Word
  | .a => zextByte s.a
  | .b => zextByte s.b
  | .d => s.d

/-- The effective address of an indexed operand, and the state with the register an auto form modifies (R111); the
pointer of an indirect form is read from the 64 KB space (R106, R107). -/
def State.indexedFrom (s : State) (pcBase : Word) : Indexed → Word × State
  | .off5 r n => (s.base pcBase r + n.signExtend 16, s)
  | .auto r post n =>
    let old := s.autoReg r
    let new := old + autoDelta n
    (if post then old else new, s.setAutoReg r new)
  | .acc r o => (s.base pcBase r + s.accOffset o, s)
  | .off9 r n => (s.base pcBase r + n.signExtend 16, s)
  | .off16 r n => (s.base pcBase r + n, s)
  | .ind16 r n => (s.read16 (s.base pcBase r + n), s)
  | .indD r => (s.read16 (s.base pcBase r + s.d), s)

/-- The effective address of an indexed operand, relative to NextPC (R108). -/
def State.indexed (s : State) (xb : Indexed) : Word × State := s.indexedFrom s.pc xb

/-- The high byte of direct addresses: DIRECT on CPU12X, $00 on CPU12 (R43, R66). -/
def State.directPage (s : State) : Byte := if s.cfg.version.isX then s.direct else 0#8

/-- The effective address of a memory operand (R98, R99, R111). -/
def State.ea (s : State) : DirExtIdx → Word × State
  | .dir dd => (joinBytes s.directPage dd, s)
  | .ext a => (a, s)
  | .idx xb => s.indexed xb

/-- The effective address of an operand with no direct form (R99, R111). -/
def State.eaExtIdx (s : State) : ExtIdx → Word × State
  | .ext a => (a, s)
  | .idx xb => s.indexed xb

/-- An 8-bit operand's value (R97), read after the side effects of its addressing mode (R74). -/
def State.src8 (s : State) : Src8 → Byte × State
  | .imm v => (v, s)
  | .mem m =>
    let (a, s) := s.ea m
    (s.read8 a, s)

/-- A 16-bit operand's value (R97), read after the side effects of its addressing mode (R74). -/
def State.src16 (s : State) : Src16 → Word × State
  | .imm v => (v, s)
  | .mem m =>
    let (a, s) := s.ea m
    (s.read16 a, s)

/-- The register an addressing mode modifies (R102). -/
def Indexed.autoTarget : Indexed → Option AutoReg
  | .off5 _ _ => none
  | .auto r _ _ => some r
  | .acc _ _ => none
  | .off9 _ _ => none
  | .off16 _ _ => none
  | .ind16 _ _ => none
  | .indD _ => none

/-- The register the addressing mode of a memory operand modifies (R102). -/
def DirExtIdx.autoTarget : DirExtIdx → Option AutoReg
  | .dir _ => none
  | .ext _ => none
  | .idx xb => Indexed.autoTarget xb

/-- The register the addressing mode of an operand modifies (R102). -/
def Src16.autoTarget : Src16 → Option AutoReg
  | .imm _ => none
  | .mem m => DirExtIdx.autoTarget m

/-! ## Register operands -/

/-- The two accumulators (R20). -/
inductive Acc where
  | a
  | b
  deriving DecidableEq, Repr

/-- An accumulator's value. -/
def State.acc (s : State) : Acc → Byte
  | .a => s.a
  | .b => s.b

/-- Writes an accumulator. -/
def State.setAcc (s : State) (r : Acc) (v : Byte) : State :=
  match r with
  | .a => s.setA v
  | .b => s.setB v

/-- The 16-bit registers of the programmer's model that arithmetic names (R21 to R23). -/
inductive Wide where
  | d
  | x
  | y
  | sp
  deriving DecidableEq, Repr

/-- A 16-bit register's value. -/
def State.wide (s : State) : Wide → Word
  | .d => s.d
  | .x => s.x
  | .y => s.y
  | .sp => s.sp

/-- Writes a 16-bit register. -/
def State.setWide (s : State) (r : Wide) (v : Word) : State :=
  match r with
  | .d => s.setD v
  | .x => s.setX v
  | .y => s.setY v
  | .sp => s.setSp v

/-! ## Shapes shared by the arithmetic and logic families -/

/-- Accumulator and operand to accumulator. The operand's addressing mode has its effects first (R74). -/
def State.accOp (s : State) (f : Alu2 8) (r : Acc) (op : Src8) : State :=
  let (q, s) := s.src8 op
  let out := f s.ccr (s.acc r) q
  (s.setAcc r out.1).setCcr out.2

/-- Accumulator against operand: flags only. -/
def State.accTest (s : State) (f : Alu2 8) (r : Acc) (op : Src8) : State :=
  let (q, s) := s.src8 op
  s.setCcr (f s.ccr (s.acc r) q).2

/-- 16-bit register and operand to register. The operand's addressing mode has its effects first, so a register that it
modifies enters the sum as modified (R74; log 20). -/
def State.wideOp (s : State) (f : Alu2 16) (r : Wide) (op : Src16) : State :=
  let (q, s) := s.src16 op
  let out := f s.ccr (s.wide r) q
  (s.setWide r out.1).setCcr out.2

/-- 16-bit register against operand: flags only; the register as modified, as above (R74; log 20). -/
def State.wideTest (s : State) (f : Alu2 16) (r : Wide) (op : Src16) : State :=
  let (q, s) := s.src16 op
  s.setCcr (f s.ccr (s.wide r) q).2

/-- An accumulator to itself. -/
def State.accUnary (s : State) (f : Alu1 8) (r : Acc) : State :=
  let out := f s.ccr (s.acc r)
  (s.setAcc r out.1).setCcr out.2

/-- A 16-bit register to itself. -/
def State.wideUnary (s : State) (f : Alu1 16) (r : Wide) : State :=
  let out := f s.ccr (s.wide r)
  (s.setWide r out.1).setCcr out.2

/-- A memory byte to itself: one read, one write at the same address (R72). -/
def State.byteUnary (s : State) (f : Alu1 8) (op : ExtIdx) : State :=
  let (a, s) := s.eaExtIdx op
  let out := f s.ccr (s.read8 a)
  (s.write8 a out.1).setCcr out.2

/-- A memory word to itself: one read, one write at the same address (R72). -/
def State.wordUnary (s : State) (f : Alu1 16) (op : ExtIdx) : State :=
  let (a, s) := s.eaExtIdx op
  let out := f s.ccr (s.read16 a)
  (s.write16 a out.1).setCcr out.2

end Sys2Proof.Machine
end

