-- ==== Sys2Proof/Machine/AddSub.lean ====
section
/-!
DEFINITION. Addition, subtraction, BCD adjust, increment and decrement (41_add_sub_bcd_incdec.md R230 to R288).
-/

namespace Sys2Proof.Machine

/-! ## Shared operations -/

/-- Adds the zero-extended B to an index register; no flag changes (R232, R233). -/
def State.addB (s : State) (r : AutoReg) : State := s.setAutoReg r (s.autoReg r + zextByte s.b)

/-- Adds to a register and sets Z alone from the result (R278, R287). -/
def State.stepIndex (s : State) (r : AutoReg) (delta : Word) : State :=
  let v := s.autoReg r + delta
  (s.setAutoReg r v).flags fun f => { f with z := v == 0 }

/-- ABA and SBA: A and B to A (R231, R252). -/
def State.accAB (s : State) (f : Alu2 8) : State :=
  let out := f s.ccr s.a s.b
  (s.setA out.1).setCcr out.2

/-! ## The instructions -/

/-- ABA (R231). -/
def execAba (s : State) : Result := .next (s.accAB (aluAdd8 false))

/-- ABX (R232). -/
def execAbx (s : State) : Result := .next (s.addB .x)

/-- ABY (R233). -/
def execAby (s : State) : Result := .next (s.addB .y)

/-- ADCA (R234). -/
def execAdca (op : Src8) (s : State) : Result := .next (s.accOp (aluAdd8 true) .a op)

/-- ADCB (R235). -/
def execAdcb (op : Src8) (s : State) : Result := .next (s.accOp (aluAdd8 true) .b op)

/-- ADDA (R236). -/
def execAdda (op : Src8) (s : State) : Result := .next (s.accOp (aluAdd8 false) .a op)

/-- ADDB (R237). -/
def execAddb (op : Src8) (s : State) : Result := .next (s.accOp (aluAdd8 false) .b op)

/-- ADDD (R239). -/
def execAddd (op : Src16) (s : State) : Result := .next (s.wideOp (aluAdd16 false) .d op)

/-- ADDX (R240). -/
def execAddx (op : Src16) (s : State) : Result := .next (s.wideOp (aluAdd16 false) .x op)

/-- ADDY (R241). -/
def execAddy (op : Src16) (s : State) : Result := .next (s.wideOp (aluAdd16 false) .y op)

/-- ADED (R242). -/
def execAded (op : Src16) (s : State) : Result := .next (s.wideOp (aluAdd16 true) .d op)

/-- ADEX (R243). -/
def execAdex (op : Src16) (s : State) : Result := .next (s.wideOp (aluAdd16 true) .x op)

/-- ADEY (R244). -/
def execAdey (op : Src16) (s : State) : Result := .next (s.wideOp (aluAdd16 true) .y op)

/-- SBA (R252). -/
def execSba (s : State) : Result := .next (s.accAB (aluSub false false))

/-- SBCA (R253). -/
def execSbca (op : Src8) (s : State) : Result := .next (s.accOp (aluSub true false) .a op)

/-- SBCB (R254). -/
def execSbcb (op : Src8) (s : State) : Result := .next (s.accOp (aluSub true false) .b op)

/-- SUBA (R255). -/
def execSuba (op : Src8) (s : State) : Result := .next (s.accOp (aluSub false false) .a op)

/-- SUBB (R256). -/
def execSubb (op : Src8) (s : State) : Result := .next (s.accOp (aluSub false false) .b op)

/-- SUBD (R257). -/
def execSubd (op : Src16) (s : State) : Result := .next (s.wideOp (aluSub false false) .d op)

/-- SUBX (R258). -/
def execSubx (op : Src16) (s : State) : Result := .next (s.wideOp (aluSub false false) .x op)

/-- SUBY (R259). -/
def execSuby (op : Src16) (s : State) : Result := .next (s.wideOp (aluSub false false) .y op)

/-- SBED (R260). -/
def execSbed (op : Src16) (s : State) : Result := .next (s.wideOp (aluSub true true) .d op)

/-- SBEX (R261). -/
def execSbex (op : Src16) (s : State) : Result := .next (s.wideOp (aluSub true true) .x op)

/-- SBEY (R262). -/
def execSbey (op : Src16) (s : State) : Result := .next (s.wideOp (aluSub true true) .y op)

/-- DAA (R265). -/
def execDaa (s : State) : Result := .next (s.accUnary (aluDaa (s.freeFlag .v)) .a)

/-- DEC (R271). -/
def execDec (op : ExtIdx) (s : State) : Result := .next (s.byteUnary aluDec op)

/-- DECA (R272). -/
def execDeca (s : State) : Result := .next (s.accUnary aluDec .a)

/-- DECB (R273). -/
def execDecb (s : State) : Result := .next (s.accUnary aluDec .b)

/-- DECW (R274). -/
def execDecw (op : ExtIdx) (s : State) : Result := .next (s.wordUnary aluDec op)

/-- DECX (R275). -/
def execDecx (s : State) : Result := .next (s.wideUnary aluDec .x)

/-- DECY (R276). -/
def execDecy (s : State) : Result := .next (s.wideUnary aluDec .y)

/-- DES (R277). -/
def execDes (s : State) : Result := .next (s.setSp (s.sp - 1#16))

/-- DEX (R278). -/
def execDex (s : State) : Result := .next (s.stepIndex .x (0#16 - 1#16))

/-- DEY (R279). -/
def execDey (s : State) : Result := .next (s.stepIndex .y (0#16 - 1#16))

/-- INC (R280). -/
def execInc (op : ExtIdx) (s : State) : Result := .next (s.byteUnary aluInc op)

/-- INCA (R281). -/
def execInca (s : State) : Result := .next (s.accUnary aluInc .a)

/-- INCB (R282). -/
def execIncb (s : State) : Result := .next (s.accUnary aluInc .b)

/-- INCW (R283). -/
def execIncw (op : ExtIdx) (s : State) : Result := .next (s.wordUnary aluInc op)

/-- INCX (R284). -/
def execIncx (s : State) : Result := .next (s.wideUnary aluInc .x)

/-- INCY (R285). -/
def execIncy (s : State) : Result := .next (s.wideUnary aluInc .y)

/-- INS (R286). -/
def execIns (s : State) : Result := .next (s.setSp (s.sp + 1#16))

/-- INX (R287). -/
def execInx (s : State) : Result := .next (s.stepIndex .x 1#16)

/-- INY (R288). -/
def execIny (s : State) : Result := .next (s.stepIndex .y 1#16)

end Sys2Proof.Machine
end

