-- ==== Sys2Proof/Machine/BitShift.lean ====
section
/-!
DEFINITION. Bit test, bit manipulation, shift and rotate (44_bit_shift_rotate.md R400 to R456).
-/

namespace Sys2Proof.Machine

/-- BCLR, BSET: read, combine with the mask, always write; flags from the result (R400 to R402). -/
def State.bitWrite (s : State) (f : Byte → Byte → Byte) (op : DirExtIdx) (mask : Byte) : State :=
  let (a, s) := s.ea op
  let r := f (s.read8 a) mask
  (s.write8 a r).flags (·.nzv0 r)

/-- BTAS: the flags come from the byte read AND the mask, the byte written is the byte read OR the mask (R403). -/
def State.bitTestAndSet (s : State) (op : DirExtIdx) (mask : Byte) : State :=
  let (a, s) := s.ea op
  let p := s.read8 a
  (s.write8 a (p ||| mask)).flags (·.nzv0 (p &&& mask))

/-! ## The instructions -/

/-- BCLR (R401). -/
def execBclr (op : DirExtIdx) (mask : Byte) (s : State) : Result := .next (s.bitWrite (fun p m => p &&& ~~~m) op mask)

/-- BSET (R402). -/
def execBset (op : DirExtIdx) (mask : Byte) (s : State) : Result := .next (s.bitWrite (fun p m => p ||| m) op mask)

/-- BTAS (R403). -/
def execBtas (op : DirExtIdx) (mask : Byte) (s : State) : Result := .next (s.bitTestAndSet op mask)

/-- BITA (R404). -/
def execBita (op : Src8) (s : State) : Result := .next (s.accTest (aluLogic (· &&& ·)) .a op)

/-- BITB (R405). -/
def execBitb (op : Src8) (s : State) : Result := .next (s.accTest (aluLogic (· &&& ·)) .b op)

/-- BITX (R406). -/
def execBitx (op : Src16) (s : State) : Result := .next (s.wideTest (aluLogic (· &&& ·)) .x op)

/-- BITY (R407). -/
def execBity (op : Src16) (s : State) : Result := .next (s.wideTest (aluLogic (· &&& ·)) .y op)

/-- ASL and LSL (R411). -/
def execAsl (op : ExtIdx) (s : State) : Result := .next (s.byteUnary aluAsl op)

/-- ASLA and LSLA (R412). -/
def execAsla (s : State) : Result := .next (s.accUnary aluAsl .a)

/-- ASLB and LSLB (R413). -/
def execAslb (s : State) : Result := .next (s.accUnary aluAsl .b)

/-- ASLD and LSLD (R414). -/
def execAsld (s : State) : Result := .next (s.wideUnary aluAsl .d)

/-- ASLW and LSLW (R415). -/
def execAslw (op : ExtIdx) (s : State) : Result := .next (s.wordUnary aluAsl op)

/-- ASLX and LSLX (R416). -/
def execAslx (s : State) : Result := .next (s.wideUnary aluAsl .x)

/-- ASLY and LSLY (R417). -/
def execAsly (s : State) : Result := .next (s.wideUnary aluAsl .y)

/-- ASR (R421). -/
def execAsr (op : ExtIdx) (s : State) : Result := .next (s.byteUnary aluAsr op)

/-- ASRA (R422). -/
def execAsra (s : State) : Result := .next (s.accUnary aluAsr .a)

/-- ASRB (R423). -/
def execAsrb (s : State) : Result := .next (s.accUnary aluAsr .b)

/-- ASRW (R424). -/
def execAsrw (op : ExtIdx) (s : State) : Result := .next (s.wordUnary aluAsr op)

/-- ASRX (R425). -/
def execAsrx (s : State) : Result := .next (s.wideUnary aluAsr .x)

/-- ASRY (R426). -/
def execAsry (s : State) : Result := .next (s.wideUnary aluAsr .y)

/-- LSR (R431). -/
def execLsr (op : ExtIdx) (s : State) : Result := .next (s.byteUnary aluLsr op)

/-- LSRA (R432). -/
def execLsra (s : State) : Result := .next (s.accUnary aluLsr .a)

/-- LSRB (R433). -/
def execLsrb (s : State) : Result := .next (s.accUnary aluLsr .b)

/-- LSRD (R434). -/
def execLsrd (s : State) : Result := .next (s.wideUnary aluLsr .d)

/-- LSRW (R435). -/
def execLsrw (op : ExtIdx) (s : State) : Result := .next (s.wordUnary aluLsr op)

/-- LSRX (R436). -/
def execLsrx (s : State) : Result := .next (s.wideUnary aluLsr .x)

/-- LSRY (R437). -/
def execLsry (s : State) : Result := .next (s.wideUnary aluLsr .y)

/-- ROL (R441). -/
def execRol (op : ExtIdx) (s : State) : Result := .next (s.byteUnary aluRol op)

/-- ROLA (R442). -/
def execRola (s : State) : Result := .next (s.accUnary aluRol .a)

/-- ROLB (R443). -/
def execRolb (s : State) : Result := .next (s.accUnary aluRol .b)

/-- ROLW (R444). -/
def execRolw (op : ExtIdx) (s : State) : Result := .next (s.wordUnary aluRol op)

/-- ROLX (R445). -/
def execRolx (s : State) : Result := .next (s.wideUnary aluRol .x)

/-- ROLY (R446). -/
def execRoly (s : State) : Result := .next (s.wideUnary aluRol .y)

/-- ROR (R451). -/
def execRor (op : ExtIdx) (s : State) : Result := .next (s.byteUnary aluRor op)

/-- RORA (R452). -/
def execRora (s : State) : Result := .next (s.accUnary aluRor .a)

/-- RORB (R453). -/
def execRorb (s : State) : Result := .next (s.accUnary aluRor .b)

/-- RORW (R454). -/
def execRorw (op : ExtIdx) (s : State) : Result := .next (s.wordUnary aluRor op)

/-- RORX (R455). -/
def execRorx (s : State) : Result := .next (s.wideUnary aluRor .x)

/-- RORY (R456). -/
def execRory (s : State) : Result := .next (s.wideUnary aluRor .y)

end Sys2Proof.Machine
end

