-- ==== Sys2Proof/Machine/Branch.lean ====
section
/-!
DEFINITION. Branches, bit-condition branches and loop primitives (46_branch_loop.md R500 to R529, R720 to R738).
-/

namespace Sys2Proof.Machine

/-! ## Conditions (R503 to R518), one function of the CCR each -/

/-- BHI: C or Z clear (R511). -/
def condHigher (f : Ccr) : Bool := !(f.c || f.z)

/-- BLS: C or Z set (R514). -/
def condLowerSame (f : Ccr) : Bool := f.c || f.z

/-- BGE: N equals V (R515). -/
def condGreaterEqual (f : Ccr) : Bool := !(f.n ^^ f.v)

/-- BLT: N differs from V (R518). -/
def condLess (f : Ccr) : Bool := f.n ^^ f.v

/-- BGT: Z clear and N equals V (R516). -/
def condGreater (f : Ccr) : Bool := !(f.z || (f.n ^^ f.v))

/-- BLE: Z set or N differs from V (R517). -/
def condLessEqual (f : Ccr) : Bool := f.z || (f.n ^^ f.v)

/-! ## Shared operations -/

/-- A short branch (R500). -/
def State.shortBranch (s : State) (cond : Bool) (rel : Byte) : State := s.branchIf cond (sextByte rel)

/-- A long branch (R720). -/
def State.longBranch (s : State) (cond : Bool) (rel : Word) : State := s.branchIf cond rel

/-- A bit-condition branch: the byte is read, with the side effects of its mode, whether or not the branch is taken
(R519). -/
def State.bitBranch (s : State) (cond : Byte → Byte → Bool) (op : DirExtIdx) (mask rel : Byte) : State :=
  let (a, s) := s.ea op
  s.branchIf (cond (s.read8 a) mask) (sextByte rel)

/-- The counter of a loop primitive changed by `delta`, and whether it is zero afterwards: 8 bits for A and B, 16 bits
for the others (R522). -/
def State.loopCount (s : State) (r : LoopReg) (delta : Int) : Bool × State :=
  match r with
  | .a =>
    let v := s.a + BitVec.ofInt 8 delta
    (v == 0, s.setA v)
  | .b =>
    let v := s.b + BitVec.ofInt 8 delta
    (v == 0, s.setB v)
  | .d =>
    let v := s.d + BitVec.ofInt 16 delta
    (v == 0, s.setD v)
  | .x =>
    let v := s.x + BitVec.ofInt 16 delta
    (v == 0, s.setX v)
  | .y =>
    let v := s.y + BitVec.ofInt 16 delta
    (v == 0, s.setY v)
  | .sp =>
    let v := s.sp + BitVec.ofInt 16 delta
    (v == 0, s.setSp v)

/-- A loop primitive: the counter changes, and the branch is taken when the zero test answers `onZero` (R522). -/
def State.loop (s : State) (r : LoopReg) (delta : Int) (onZero : Bool) (off : BitVec 9) : State :=
  let (zero, s) := s.loopCount r delta
  s.branchIf (zero == onZero) (off.signExtend 16)

/-! ## The instructions -/

/-- BRA (R501). -/
def execBra (rel : Byte) (s : State) : Result := .next (s.shortBranch true rel)

/-- BRN (R502). -/
def execBrn (rel : Byte) (s : State) : Result := .next (s.shortBranch false rel)

/-- BCC (R503). -/
def execBcc (rel : Byte) (s : State) : Result := .next (s.shortBranch (!s.ccr.c) rel)

/-- BCS (R504). -/
def execBcs (rel : Byte) (s : State) : Result := .next (s.shortBranch s.ccr.c rel)

/-- BEQ (R505). -/
def execBeq (rel : Byte) (s : State) : Result := .next (s.shortBranch s.ccr.z rel)

/-- BNE (R506). -/
def execBne (rel : Byte) (s : State) : Result := .next (s.shortBranch (!s.ccr.z) rel)

/-- BMI (R507). -/
def execBmi (rel : Byte) (s : State) : Result := .next (s.shortBranch s.ccr.n rel)

/-- BPL (R508). -/
def execBpl (rel : Byte) (s : State) : Result := .next (s.shortBranch (!s.ccr.n) rel)

/-- BVC (R509). -/
def execBvc (rel : Byte) (s : State) : Result := .next (s.shortBranch (!s.ccr.v) rel)

/-- BVS (R510). -/
def execBvs (rel : Byte) (s : State) : Result := .next (s.shortBranch s.ccr.v rel)

/-- BHI (R511). -/
def execBhi (rel : Byte) (s : State) : Result := .next (s.shortBranch (condHigher s.ccr) rel)

/-- BHS (R512). -/
def execBhs (rel : Byte) (s : State) : Result := .next (s.shortBranch (!s.ccr.c) rel)

/-- BLO (R513). -/
def execBlo (rel : Byte) (s : State) : Result := .next (s.shortBranch s.ccr.c rel)

/-- BLS (R514). -/
def execBls (rel : Byte) (s : State) : Result := .next (s.shortBranch (condLowerSame s.ccr) rel)

/-- BGE (R515). -/
def execBge (rel : Byte) (s : State) : Result := .next (s.shortBranch (condGreaterEqual s.ccr) rel)

/-- BGT (R516). -/
def execBgt (rel : Byte) (s : State) : Result := .next (s.shortBranch (condGreater s.ccr) rel)

/-- BLE (R517). -/
def execBle (rel : Byte) (s : State) : Result := .next (s.shortBranch (condLessEqual s.ccr) rel)

/-- BLT (R518). -/
def execBlt (rel : Byte) (s : State) : Result := .next (s.shortBranch (condLess s.ccr) rel)

/-- LBRA (R721). -/
def execLbra (rel : Word) (s : State) : Result := .next (s.longBranch true rel)

/-- LBRN (R722). -/
def execLbrn (rel : Word) (s : State) : Result := .next (s.longBranch false rel)

/-- LBCC (R723). -/
def execLbcc (rel : Word) (s : State) : Result := .next (s.longBranch (!s.ccr.c) rel)

/-- LBCS (R724). -/
def execLbcs (rel : Word) (s : State) : Result := .next (s.longBranch s.ccr.c rel)

/-- LBEQ (R725). -/
def execLbeq (rel : Word) (s : State) : Result := .next (s.longBranch s.ccr.z rel)

/-- LBNE (R726). -/
def execLbne (rel : Word) (s : State) : Result := .next (s.longBranch (!s.ccr.z) rel)

/-- LBMI (R727). -/
def execLbmi (rel : Word) (s : State) : Result := .next (s.longBranch s.ccr.n rel)

/-- LBPL (R728). -/
def execLbpl (rel : Word) (s : State) : Result := .next (s.longBranch (!s.ccr.n) rel)

/-- LBVC (R729). -/
def execLbvc (rel : Word) (s : State) : Result := .next (s.longBranch (!s.ccr.v) rel)

/-- LBVS (R730). -/
def execLbvs (rel : Word) (s : State) : Result := .next (s.longBranch s.ccr.v rel)

/-- LBHI (R731). -/
def execLbhi (rel : Word) (s : State) : Result := .next (s.longBranch (condHigher s.ccr) rel)

/-- LBHS (R732). -/
def execLbhs (rel : Word) (s : State) : Result := .next (s.longBranch (!s.ccr.c) rel)

/-- LBLO (R733). -/
def execLblo (rel : Word) (s : State) : Result := .next (s.longBranch s.ccr.c rel)

/-- LBLS (R734). -/
def execLbls (rel : Word) (s : State) : Result := .next (s.longBranch (condLowerSame s.ccr) rel)

/-- LBGE (R735). -/
def execLbge (rel : Word) (s : State) : Result := .next (s.longBranch (condGreaterEqual s.ccr) rel)

/-- LBGT (R736). -/
def execLbgt (rel : Word) (s : State) : Result := .next (s.longBranch (condGreater s.ccr) rel)

/-- LBLE (R737). -/
def execLble (rel : Word) (s : State) : Result := .next (s.longBranch (condLessEqual s.ccr) rel)

/-- LBLT (R738). -/
def execLblt (rel : Word) (s : State) : Result := .next (s.longBranch (condLess s.ccr) rel)

/-- BRCLR (R520). -/
def execBrclr (op : DirExtIdx) (mask : Byte) (rel : Byte) (s : State) : Result := .next (s.bitBranch (fun p m => p &&& m == 0#8) op mask rel)

/-- BRSET (R521). -/
def execBrset (op : DirExtIdx) (mask : Byte) (rel : Byte) (s : State) : Result := .next (s.bitBranch (fun p m => ~~~p &&& m == 0#8) op mask rel)

/-- DBEQ (R523). -/
def execDbeq (r : LoopReg) (off : BitVec 9) (s : State) : Result := .next (s.loop r (-1) true off)

/-- DBNE (R524). -/
def execDbne (r : LoopReg) (off : BitVec 9) (s : State) : Result := .next (s.loop r (-1) false off)

/-- TBEQ (R527). -/
def execTbeq (r : LoopReg) (off : BitVec 9) (s : State) : Result := .next (s.loop r 0 true off)

/-- TBNE (R528). -/
def execTbne (r : LoopReg) (off : BitVec 9) (s : State) : Result := .next (s.loop r 0 false off)

/-- IBEQ (R525). -/
def execIbeq (r : LoopReg) (off : BitVec 9) (s : State) : Result := .next (s.loop r 1 true off)

/-- IBNE (R526). -/
def execIbne (r : LoopReg) (off : BitVec 9) (s : State) : Result := .next (s.loop r 1 false off)

end Sys2Proof.Machine
end

