-- ==== Sys2Proof/Machine/CompareLogic.lean ====
section
/-!
DEFINITION. Compare, test, Boolean logic, logic on the CCR, clear, complement and negate
(42_compare_logic_clr_com_neg.md R300 to R373).
-/

namespace Sys2Proof.Machine

/-! ## Shared operations -/

/-- Test of a memory byte: one read, no write (R315). -/
def State.testByte (s : State) (op : ExtIdx) : State :=
  let (a, s) := s.eaExtIdx op
  s.setCcr (aluTst s.ccr (s.read8 a)).2

/-- Test of a memory word (R315). -/
def State.testWord (s : State) (op : ExtIdx) : State :=
  let (a, s) := s.eaExtIdx op
  s.setCcr (aluTst s.ccr (s.read16 a)).2

/-- Clears a memory byte: written without being read (R350). -/
def State.clearByte (s : State) (op : ExtIdx) : State :=
  let (a, s) := s.eaExtIdx op
  (s.write8 a 0#8).flags clearedFlags

/-- Clears a memory word: written without being read (R353). -/
def State.clearWord (s : State) (op : ExtIdx) : State :=
  let (a, s) := s.eaExtIdx op
  (s.write16 a 0#16).flags clearedFlags

/-- `WriteCCR(CCR AND mask)` (R340). -/
def State.andCcr (s : State) (mask : Byte) : State := s.writeCcr (s.ccrByte &&& mask)

/-- `WriteCCR(CCR OR mask)` (R344). -/
def State.orCcr (s : State) (mask : Byte) : State := s.writeCcr (s.ccrByte ||| mask)

/-! ## The instructions -/

/-- CBA (R301). -/
def execCba (s : State) : Result := .next (s.setCcr (aluSub false false s.ccr s.a s.b).2)

/-- CMPA (R302). -/
def execCmpa (op : Src8) (s : State) : Result := .next (s.accTest (aluSub false false) .a op)

/-- CMPB (R303). -/
def execCmpb (op : Src8) (s : State) : Result := .next (s.accTest (aluSub false false) .b op)

/-- CPD (R304). -/
def execCpd (op : Src16) (s : State) : Result := .next (s.wideTest (aluSub false false) .d op)

/-- CPS (R305). -/
def execCps (op : Src16) (s : State) : Result := .next (s.wideTest (aluSub false false) .sp op)

/-- CPX (R306). -/
def execCpx (op : Src16) (s : State) : Result := .next (s.wideTest (aluSub false false) .x op)

/-- CPY (R307). -/
def execCpy (op : Src16) (s : State) : Result := .next (s.wideTest (aluSub false false) .y op)

/-- CPED (R308). -/
def execCped (op : Src16) (s : State) : Result := .next (s.wideTest (aluSub true true) .d op)

/-- CPES (R309). -/
def execCpes (op : Src16) (s : State) : Result := .next (s.wideTest (aluSub true true) .sp op)

/-- CPEX (R310). -/
def execCpex (op : Src16) (s : State) : Result := .next (s.wideTest (aluSub true true) .x op)

/-- CPEY (R311). -/
def execCpey (op : Src16) (s : State) : Result := .next (s.wideTest (aluSub true true) .y op)

/-- TST (R316). -/
def execTst (op : ExtIdx) (s : State) : Result := .next (s.testByte op)

/-- TSTA (R317). -/
def execTsta (s : State) : Result := .next (s.accUnary aluTst .a)

/-- TSTB (R318). -/
def execTstb (s : State) : Result := .next (s.accUnary aluTst .b)

/-- TSTW (R319). -/
def execTstw (op : ExtIdx) (s : State) : Result := .next (s.testWord op)

/-- TSTX (R320). -/
def execTstx (s : State) : Result := .next (s.wideUnary aluTst .x)

/-- TSTY (R321). -/
def execTsty (s : State) : Result := .next (s.wideUnary aluTst .y)

/-- ANDA (R326). -/
def execAnda (op : Src8) (s : State) : Result := .next (s.accOp (aluLogic (· &&& ·)) .a op)

/-- ANDB (R327). -/
def execAndb (op : Src8) (s : State) : Result := .next (s.accOp (aluLogic (· &&& ·)) .b op)

/-- ANDX (R328). -/
def execAndx (op : Src16) (s : State) : Result := .next (s.wideOp (aluLogic (· &&& ·)) .x op)

/-- ANDY (R329). -/
def execAndy (op : Src16) (s : State) : Result := .next (s.wideOp (aluLogic (· &&& ·)) .y op)

/-- EORA (R330). -/
def execEora (op : Src8) (s : State) : Result := .next (s.accOp (aluLogic (· ^^^ ·)) .a op)

/-- EORB (R331). -/
def execEorb (op : Src8) (s : State) : Result := .next (s.accOp (aluLogic (· ^^^ ·)) .b op)

/-- EORX (R332). -/
def execEorx (op : Src16) (s : State) : Result := .next (s.wideOp (aluLogic (· ^^^ ·)) .x op)

/-- EORY (R333). -/
def execEory (op : Src16) (s : State) : Result := .next (s.wideOp (aluLogic (· ^^^ ·)) .y op)

/-- ORAA (R334). -/
def execOraa (op : Src8) (s : State) : Result := .next (s.accOp (aluLogic (· ||| ·)) .a op)

/-- ORAB (R335). -/
def execOrab (op : Src8) (s : State) : Result := .next (s.accOp (aluLogic (· ||| ·)) .b op)

/-- ORX (R336). -/
def execOrx (op : Src16) (s : State) : Result := .next (s.wideOp (aluLogic (· ||| ·)) .x op)

/-- ORY (R337). -/
def execOry (op : Src16) (s : State) : Result := .next (s.wideOp (aluLogic (· ||| ·)) .y op)

/-- ANDCC (R340). -/
def execAndcc (mask : Byte) (s : State) : Result := .next (s.andCcr mask)

/-- CLC (R341). -/
def execClc (s : State) : Result := .next (s.andCcr 0xFE#8)

/-- CLI (R342). -/
def execCli (s : State) : Result := .next (s.andCcr 0xEF#8)

/-- CLV (R343). -/
def execClv (s : State) : Result := .next (s.andCcr 0xFD#8)

/-- ORCC (R344). -/
def execOrcc (mask : Byte) (s : State) : Result := .next (s.orCcr mask)

/-- SEC (R345). -/
def execSec (s : State) : Result := .next (s.orCcr 0x01#8)

/-- SEI (R346). -/
def execSei (s : State) : Result := .next (s.orCcr 0x10#8)

/-- SEV (R347). -/
def execSev (s : State) : Result := .next (s.orCcr 0x02#8)

/-- CLR (R350). -/
def execClr (op : ExtIdx) (s : State) : Result := .next (s.clearByte op)

/-- CLRA (R351). -/
def execClra (s : State) : Result := .next ((s.setAcc .a 0#8).flags clearedFlags)

/-- CLRB (R352). -/
def execClrb (s : State) : Result := .next ((s.setAcc .b 0#8).flags clearedFlags)

/-- CLRW (R353). -/
def execClrw (op : ExtIdx) (s : State) : Result := .next (s.clearWord op)

/-- CLRX (R354). -/
def execClrx (s : State) : Result := .next ((s.setWide .x 0#16).flags clearedFlags)

/-- CLRY (R355). -/
def execClry (s : State) : Result := .next ((s.setWide .y 0#16).flags clearedFlags)

/-- COM (R359). -/
def execCom (op : ExtIdx) (s : State) : Result := .next (s.byteUnary aluCom op)

/-- COMA (R360). -/
def execComa (s : State) : Result := .next (s.accUnary aluCom .a)

/-- COMB (R361). -/
def execComb (s : State) : Result := .next (s.accUnary aluCom .b)

/-- COMW (R362). -/
def execComw (op : ExtIdx) (s : State) : Result := .next (s.wordUnary aluCom op)

/-- COMX (R363). -/
def execComx (s : State) : Result := .next (s.wideUnary aluCom .x)

/-- COMY (R364). -/
def execComy (s : State) : Result := .next (s.wideUnary aluCom .y)

/-- NEG (R368). -/
def execNeg (op : ExtIdx) (s : State) : Result := .next (s.byteUnary aluNeg op)

/-- NEGA (R369). -/
def execNega (s : State) : Result := .next (s.accUnary aluNeg .a)

/-- NEGB (R370). -/
def execNegb (s : State) : Result := .next (s.accUnary aluNeg .b)

/-- NEGW (R371). -/
def execNegw (op : ExtIdx) (s : State) : Result := .next (s.wordUnary aluNeg op)

/-- NEGX (R372). -/
def execNegx (s : State) : Result := .next (s.wideUnary aluNeg .x)

/-- NEGY (R373). -/
def execNegy (s : State) : Result := .next (s.wideUnary aluNeg .y)

end Sys2Proof.Machine
end

