-- ==== Sys2Proof/Machine/Fuzzy.lean ====
section
/-!
DEFINITION. The fuzzy logic instructions (45_fuzzy_minmax_mac_table.md R470 to R478), one element of a rule list or one
iteration of a sum per step (R473, D23; log 19). On a version without them their opcodes take the unimplemented opcode
trap (R131, R470, R547).
-/

namespace Sys2Proof.Machine

/-- A fuzzy instruction where the version has it, the trap where it has not (R470). -/
def State.fuzzy (s : State) (f : State → State) : State := if s.cfg.version.hasFuzzy then f s else s.trap

/-! ## MEM -/

/-- The grade of membership (R472). -/
def memGrade (a p1 p2 s1 s2 : Byte) : Byte :=
  let outside := a.toNat < p1.toNat || p2.toNat < a.toNat
  let g1 := if outside then 0 else s1.toNat * (a.toNat - p1.toNat)
  let g2 := if outside then 0 else s2.toNat * (p2.toNat - a.toNat)
  let grade2 := if (s2 == 0 || 0xFF < g2) && !outside then 0xFF else g2
  let grade := if (s1 == 0 || 0xFF < g1) && !outside then grade2 else g1
  BitVec.ofNat 8 grade

/-- H, N, Z, V and C undefined (R471, U10). -/
def State.memFlags (s : State) : State :=
  s.flags fun f => { f with h := s.freeFlag .h, n := s.freeFlag .n, z := s.freeFlag .z, v := s.freeFlag .v,
                            c := s.freeFlag .c }

/-- MEM (R471). -/
def State.membership (s : State) : State :=
  let p := s.read16 s.x
  let q := s.read16 (s.x + 2#16)
  let g := memGrade s.a (hiByte p) (loByte p) (hiByte q) (loByte q)
  (((s.write8 s.y g).setY (s.y + 1#16)).setX (s.x + 4#16)).memFlags

/-! ## REV and REVW -/

/-- H, N, Z and C undefined; V as the element left it (R474, U10). -/
def State.revFlags (s : State) : State :=
  s.flags fun f => { f with h := s.freeFlag .h, n := s.freeFlag .n, z := s.freeFlag .z, c := s.freeFlag .c }

/-- H, N and Z undefined; C undefined only when the list is complete (R475, C25, U10). -/
def State.revwFlags (s : State) (complete : Bool) : State :=
  s.flags fun f => { f with h := s.freeFlag .h, n := s.freeFlag .n, z := s.freeFlag .z,
                            c := if complete then s.freeFlag .c else f.c }

/-- The smaller of two unsigned bytes. -/
def minByte (p q : Byte) : Byte := if p.toNat ≤ q.toNat then p else q

/-- The larger of two unsigned bytes. -/
def maxByte (p q : Byte) : Byte := if p.toNat < q.toNat then q else p

/-- The PC goes back to the instruction's prebyte: the next step takes the next element (R473). -/
def State.again (s : State) : State := s.setPc (s.pc - 2#16)

/-- An antecedent: A becomes the smaller of A and the fuzzy input (R474, R475). -/
def State.antecedent (s : State) (a : Word) : State := s.setA (minByte s.a (s.read8 a))

/-- A consequent: the fuzzy output is written only when the truth value is greater (R474, R475). -/
def State.consequent (s : State) (a : Word) : State :=
  if (s.read8 a).toNat < s.a.toNat then s.write8 a s.a else s

/-- One element of REV's rule list (R474). -/
def State.revElement (s : State) : State :=
  let rx := s.read8 s.x
  let s1 := s.setX (s.x + 1#16)
  if rx = 0xFF#8 then s1.revFlags
  else if rx = 0xFE#8 then
    let s2 := if s1.ccr.v then s1.setA 0xFF#8 else s1
    (s2.flags fun f => { f with v := !f.v }).again.revFlags
  else if s1.ccr.v then (s1.consequent (s1.y + zextByte rx)).again.revFlags
  else (s1.antecedent (s1.y + zextByte rx)).again.revFlags

/-- A times weight plus one, the upper eight bits (R475). -/
def weighted (a w : Byte) : Byte := BitVec.ofNat 8 (a.toNat * (w.toNat + 1) / 256)

/-- A separator of REVW's rule list: before antecedents A is $FF; before consequents the weight applies when C is set
(R475). -/
def State.revwSeparator (s : State) : State :=
  if s.ccr.v then s.setA 0xFF#8
  else if s.ccr.c then (s.setA (weighted s.a (s.read8 s.y))).setY (s.y + 1#16)
  else s

/-- One element of REVW's rule list (R475). -/
def State.revwElement (s : State) : State :=
  let rx := s.read16 s.x
  let s1 := s.setX (s.x + 2#16)
  if rx = 0xFFFF#16 then s1.revwFlags true
  else if rx = 0xFFFE#16 then
    (s1.revwSeparator.flags fun f => { f with v := !f.v }).again.revwFlags false
  else if s1.ccr.v then (s1.consequent rx).again.revwFlags false
  else (s1.antecedent rx).again.revwFlags false

/-! ## WAV -/

/-- The sums with the pair at X and Y added; the X operand is read first, both pointers advance (R476). -/
def State.wavPair (s : State) (w : WavSums) : WavSums × State :=
  let si := s.read8 s.x
  let fi := s.read8 s.y
  ({ sop := w.sop + si.zeroExtend 32 * fi.zeroExtend 32, sow := w.sow + zextByte fi },
    (s.setX (s.x + 1#16)).setY (s.y + 1#16))

/-- H, N, V and C undefined; Z as given (R476, U10). -/
def State.wavFlags (s : State) (z : Bool) : State :=
  s.flags fun f => { f with h := s.freeFlag .h, n := s.freeFlag .n, z := z, v := s.freeFlag .v, c := s.freeFlag .c }

/-- The end of a WAV: the sum of products to Y:D, the sum of weights to X, Z set (R476, R477). -/
def State.wavFinish (s : State) (w : WavSums) : State :=
  ((((s.setY (w.sop.extractLsb' 16 16)).setD (w.sop.extractLsb' 0 16)).setX w.sow).setWav none).wavFlags true

/-- One pair of a WAV; the test of B stands at the bottom of the loop. Between two pairs the sums are kept and the PC
holds the address of the `3C` byte (R473, R476, R478). -/
def State.wavStep (s : State) (w : WavSums) : State :=
  let (w1, s1) := s.wavPair w
  if s1.b = 0#8 then s1.wavFinish w1
  else ((s1.setWav (some w1)).setPc (s1.pc - 1#16)).wavFlags s1.ccr.z

/-- The decrement at the top of the loop (R476). -/
def State.wavCount (s : State) : State := s.setB (s.b - 1#8)

/-- WAV: the first pair, from sums of zero (R476). -/
def State.wavStart (s : State) : State := s.wavCount.wavStep { sop := 0#32, sow := 0#16 }

/-- `3C`: the next pair of a WAV in progress, else the resumption of an interrupted one, which pulls the sums and takes
the pending pair without a decrement (R477, R478). -/
def State.wavResume (s : State) : State :=
  match s.wav with
  | some w => s.wavCount.wavStep w
  | none =>
    let hi := s.top16
    let s1 := s.drop 2
    let lo := s1.top16
    let s2 := s1.drop 2
    let sow := s2.top16
    (s2.drop 2).wavStep { sop := hi ++ lo, sow := sow }

/-- What an interrupt inside a WAV does before the ordinary entry: the pending pair's decrement, and the sums on the
stack (R478). -/
def State.wavSuspend (s : State) : State :=
  match s.wav with
  | none => s
  | some w =>
    ((((s.wavCount.push16 w.sow).push16 (w.sop.extractLsb' 0 16)).push16 (w.sop.extractLsb' 16 16)).setWav none)

/-! ## The instructions -/

/-- MEM (R471). -/
def execMem (s : State) : Result := .next (s.fuzzy State.membership)

/-- REV (R474). -/
def execRev (s : State) : Result := .next (s.fuzzy State.revElement)

/-- REVW (R475). -/
def execRevw (s : State) : Result := .next (s.fuzzy State.revwElement)

/-- WAV (R476). -/
def execWav (s : State) : Result := .next (s.fuzzy State.wavStart)

/-- wavr (R477). -/
def execWavr (s : State) : Result := .next (s.fuzzy State.wavResume)

end Sys2Proof.Machine
end

