-- ==== Sys2Proof/Machine/JumpCall.lean ====
section
/-!
DEFINITION. Jump, subroutine call and return, return from interrupt, SWI, SYS, TRAP and BGND
(47_jump_call_interrupt.md R530 to R550).
-/

namespace Sys2Proof.Machine

/-- JMP (R531). -/
def State.jumpTo (s : State) (op : ExtIdx) : State :=
  let (a, s) := s.eaExtIdx op
  s.jump a

/-- BSR (R532). -/
def State.branchSubroutine (s : State) (rel : Byte) : State := (s.push16 s.pc).jump (s.relative (sextByte rel))

/-- JSR: the address, with its side effects, before the push (R533). -/
def State.jumpSubroutine (s : State) (op : DirExtIdx) : State :=
  let (a, s) := s.ea op
  (s.push16 s.pc).jump a

/-- RTS (R534). -/
def State.returnSubroutine (s : State) : State := (s.drop 2).jump s.top16

/-- The address an indexed-indirect postbyte reads its pointer from: R111 without its final read (R536). -/
def State.pointerAddress (s : State) : Indexed → Word × State
  | .ind16 r n => (s.base s.pc r + n, s)
  | .indD r => (s.base s.pc r + s.d, s)
  | .off5 r n => s.indexed (.off5 r n)
  | .auto r p n => s.indexed (.auto r p n)
  | .acc r o => s.indexed (.acc r o)
  | .off9 r n => s.indexed (.off9 r n)
  | .off16 r n => s.indexed (.off16 r n)

/-- Target and page of a CALL: from the instruction, or from a record of address and page in memory (R536). -/
def State.callTarget (s : State) : CallOp → Word × Byte × State
  | .ext a pg => (a, pg, s)
  | .idx xb pg =>
    let (a, s) := s.indexed xb
    (a, pg, s)
  | .ind xb =>
    let (p, s) := s.pointerAddress xb
    (s.read16 p, s.read8 (p + 2#16), s)

/-- One of the three bytes a CALL stacks lies in the program window of an expanded map (U17). -/
def State.stackInWindow (s : State) : Bool :=
  s.cfg.phys.expanded && (inWindow (s.sp - 1#16) || inWindow (s.sp - 2#16) || inWindow (s.sp - 3#16))

/-- CALL: return address and old page stacked, then the new page and the jump (R536). With the stack in the window the
spec does not say whether the page changes before or after the stacking (U17; log 12). -/
def State.callSubroutine (s : State) (op : CallOp) : State :=
  let (target, page, s) := s.callTarget op
  if s.stackInWindow && Config.callPageFirst s.tick then
    (((s.setPpage page).push16 s.pc).push8 s.ppage).jump target
  else (((s.push16 s.pc).push8 s.ppage).setPpage page).jump target

/-- RTC (R540). -/
def State.returnCall (s : State) : State :=
  let s1 := (s.drop 1).setPpage s.top8
  (s1.drop 2).jump s1.top16

/-- SWI (R543, R544). -/
def State.softwareInterrupt (s : State) : State := s.enter 0xF6#8 s.pc .software

/-- SYS where the version has it, the unimplemented opcode trap where it has not (R545, C17). -/
def State.systemCall (s : State) : State :=
  if s.cfg.version.hasSYS then s.enter 0x12#8 s.pc .software else s.trap

/-- BGND: with BDM disabled the program goes on, with BDM enabled it stops at the next instruction (R548, D16; log
32). -/
def State.background (s : State) : State := if s.cfg.bdmEnabled then s.setRun .bdm else s

/-! ## The instructions -/

/-- JMP (R531). -/
def execJmp (op : ExtIdx) (s : State) : Result := .next (s.jumpTo op)

/-- BSR (R532). -/
def execBsr (rel : Byte) (s : State) : Result := .next (s.branchSubroutine rel)

/-- JSR (R533). -/
def execJsr (op : DirExtIdx) (s : State) : Result := .next (s.jumpSubroutine op)

/-- CALL (R536). -/
def execCall (op : CallOp) (s : State) : Result := .next (s.callSubroutine op)

/-- RTS (R534). -/
def execRts (s : State) : Result := .next (s.returnSubroutine)

/-- RTC (R540). -/
def execRtc (s : State) : Result := .next (s.returnCall)

/-- RTI (R541). -/
def execRti (s : State) : Result := .next (s.returnFromException)

/-- SWI (R544). -/
def execSwi (s : State) : Result := .next (s.softwareInterrupt)

/-- SYS (R545). -/
def execSys (s : State) : Result := .next (s.systemCall)

/-- TRAP (R546). -/
def execTrap (_tn : Byte) (s : State) : Result := .next (s.trap)

/-- BGND (R548). -/
def execBgnd (s : State) : Result := .next (s.background)

end Sys2Proof.Machine
end

