-- ==== Sys2Proof/Machine/LoadStore.lean ====
section
/-!
DEFINITION. Loads, stores, load effective address, and the global loads and stores (40_load_store_transfer_move.md R150
to R184).
-/

namespace Sys2Proof.Machine

/-! ## Shared operations -/

/-- Loads an accumulator; N and Z from the value, V cleared (R150). -/
def State.loadAcc (s : State) (r : Acc) (op : Src8) : State :=
  let (v, s) := s.src8 op
  (s.setAcc r v).flags (·.nzv0 v)

/-- Loads D (R150, R153). -/
def State.loadD (s : State) (op : Src16) : State :=
  let (v, s) := s.src16 op
  (s.setD v).flags (·.nzv0 v)

/-- The register after a load from an address its own auto-modify mode gave: the loaded value or the modified base, the
spec does not say which (R109, R150, U3; log 10). -/
def State.setLoaded (s : State) (r : AutoReg) (target : Option AutoReg) (v : Word) : State :=
  if target == some r && Config.autoLoadKeepsBase s.tick then s else s.setAutoReg r v

/-- Loads X, Y or SP (R150, R154 to R156). -/
def State.loadIndex (s : State) (r : AutoReg) (op : Src16) : State :=
  let (v, s) := s.src16 op
  (s.setLoaded r (Src16.autoTarget op) v).flags (·.nzv0 v)

/-- The value stored from a register: when the addressing mode modifies that register, the old or the new one, the spec
does not say which (R109, R160, U3; log 10). `after` is the state after the address was computed. -/
def State.storedIndex (before after : State) (r : AutoReg) (target : Option AutoReg) : Word :=
  if target == some r && !Config.autoStoreNewBase before.tick then before.autoReg r else after.autoReg r

/-- Stores an accumulator (R160). -/
def State.storeAcc (s : State) (r : Acc) (op : DirExtIdx) : State :=
  let (a, s) := s.ea op
  (s.write8 a (s.acc r)).flags (·.nzv0 (s.acc r))

/-- Stores D (R160, R163). -/
def State.storeD (s : State) (op : DirExtIdx) : State :=
  let (a, s) := s.ea op
  (s.write16 a s.d).flags (·.nzv0 s.d)

/-- Stores X, Y or SP (R160, R164 to R166). -/
def State.storeIndex (s : State) (r : AutoReg) (op : DirExtIdx) : State :=
  let (a, s') := s.ea op
  let v := s.storedIndex s' r (DirExtIdx.autoTarget op)
  (s'.write16 a v).flags (·.nzv0 v)

/-- Loads an effective address, after the side effect of its mode (R157, R109). -/
def State.loadAddress (s : State) (r : AutoReg) (op : Indexed) : State :=
  let (a, s) := s.indexed op
  s.setAutoReg r a

/-- Loads an accumulator from global memory (R170, R171). -/
def State.gloadAcc (s : State) (r : Acc) (op : DirExtIdx) : State :=
  let (a, s) := s.ea op
  let v := s.gread8 s.gpage a
  (s.setAcc r v).flags (·.nzv0 v)

/-- Loads D from global memory (R170, R175). -/
def State.gloadD (s : State) (op : DirExtIdx) : State :=
  let (a, s) := s.ea op
  let v := s.gread16 a
  (s.setD v).flags (·.nzv0 v)

/-- Loads X, Y or SP from global memory (R170, R176 to R178, U3). -/
def State.gloadIndex (s : State) (r : AutoReg) (op : DirExtIdx) : State :=
  let (a, s) := s.ea op
  let v := s.gread16 a
  (s.setLoaded r (DirExtIdx.autoTarget op) v).flags (·.nzv0 v)

/-- Stores an accumulator to global memory (R170, R171). -/
def State.gstoreAcc (s : State) (r : Acc) (op : DirExtIdx) : State :=
  let (a, s) := s.ea op
  (s.gwrite8 s.gpage a (s.acc r)).flags (·.nzv0 (s.acc r))

/-- Stores D to global memory (R170, R181). -/
def State.gstoreD (s : State) (op : DirExtIdx) : State :=
  let (a, s) := s.ea op
  (s.gwrite16 a s.d).flags (·.nzv0 s.d)

/-- Stores X, Y or SP to global memory (R170, R182 to R184, U3). -/
def State.gstoreIndex (s : State) (r : AutoReg) (op : DirExtIdx) : State :=
  let (a, s') := s.ea op
  let v := s.storedIndex s' r (DirExtIdx.autoTarget op)
  (s'.gwrite16 a v).flags (·.nzv0 v)

/-! ## The instructions -/

/-- LDAA (R151). -/
def execLdaa (op : Src8) (s : State) : Result := .next (s.loadAcc .a op)

/-- LDAB (R152). -/
def execLdab (op : Src8) (s : State) : Result := .next (s.loadAcc .b op)

/-- LDD (R153). -/
def execLdd (op : Src16) (s : State) : Result := .next (s.loadD op)

/-- LDS (R154). -/
def execLds (op : Src16) (s : State) : Result := .next (s.loadIndex .sp op)

/-- LDX (R155). -/
def execLdx (op : Src16) (s : State) : Result := .next (s.loadIndex .x op)

/-- LDY (R156). -/
def execLdy (op : Src16) (s : State) : Result := .next (s.loadIndex .y op)

/-- LEAS (R157). -/
def execLeas (op : Indexed) (s : State) : Result := .next (s.loadAddress .sp op)

/-- LEAX (R158). -/
def execLeax (op : Indexed) (s : State) : Result := .next (s.loadAddress .x op)

/-- LEAY (R159). -/
def execLeay (op : Indexed) (s : State) : Result := .next (s.loadAddress .y op)

/-- STAA (R161). -/
def execStaa (op : DirExtIdx) (s : State) : Result := .next (s.storeAcc .a op)

/-- STAB (R162). -/
def execStab (op : DirExtIdx) (s : State) : Result := .next (s.storeAcc .b op)

/-- STD (R163). -/
def execStd (op : DirExtIdx) (s : State) : Result := .next (s.storeD op)

/-- STS (R164). -/
def execSts (op : DirExtIdx) (s : State) : Result := .next (s.storeIndex .sp op)

/-- STX (R165). -/
def execStx (op : DirExtIdx) (s : State) : Result := .next (s.storeIndex .x op)

/-- STY (R166). -/
def execSty (op : DirExtIdx) (s : State) : Result := .next (s.storeIndex .y op)

/-- GLDAA (R173). -/
def execGldaa (op : DirExtIdx) (s : State) : Result := .next (s.gloadAcc .a op)

/-- GLDAB (R174). -/
def execGldab (op : DirExtIdx) (s : State) : Result := .next (s.gloadAcc .b op)

/-- GLDD (R175). -/
def execGldd (op : DirExtIdx) (s : State) : Result := .next (s.gloadD op)

/-- GLDS (R176). -/
def execGlds (op : DirExtIdx) (s : State) : Result := .next (s.gloadIndex .sp op)

/-- GLDX (R177). -/
def execGldx (op : DirExtIdx) (s : State) : Result := .next (s.gloadIndex .x op)

/-- GLDY (R178). -/
def execGldy (op : DirExtIdx) (s : State) : Result := .next (s.gloadIndex .y op)

/-- GSTAA (R179). -/
def execGstaa (op : DirExtIdx) (s : State) : Result := .next (s.gstoreAcc .a op)

/-- GSTAB (R180). -/
def execGstab (op : DirExtIdx) (s : State) : Result := .next (s.gstoreAcc .b op)

/-- GSTD (R181). -/
def execGstd (op : DirExtIdx) (s : State) : Result := .next (s.gstoreD op)

/-- GSTS (R182). -/
def execGsts (op : DirExtIdx) (s : State) : Result := .next (s.gstoreIndex .sp op)

/-- GSTX (R183). -/
def execGstx (op : DirExtIdx) (s : State) : Result := .next (s.gstoreIndex .x op)

/-- GSTY (R184). -/
def execGsty (op : DirExtIdx) (s : State) : Result := .next (s.gstoreIndex .y op)

end Sys2Proof.Machine
end

