-- ==== Sys2Proof/Machine/MinMax.lean ====
section
/-!
DEFINITION. Minimum and maximum, multiply-accumulate, table interpolation (45_fuzzy_minmax_mac_table.md R480 to R494).
-/

namespace Sys2Proof.Machine

/-- The larger of two unsigned values. -/
def maxOf {n : Nat} (p q : BitVec n) : BitVec n := if p.toNat < q.toNat then q else p

/-- The smaller of two unsigned values. -/
def minOf {n : Nat} (p q : BitVec n) : BitVec n := if q.toNat < p.toNat then q else p

/-- Flags of the internal subtraction register minus memory (R480). -/
def choiceFlags {n : Nat} (f : Ccr) (p q : BitVec n) : Ccr := (aluSub false false f p q).2

/-- The chosen byte to A (R480, R481, R483). -/
def State.chooseA (s : State) (f : Byte → Byte → Byte) (op : Indexed) : State :=
  let (a, s) := s.indexed op
  let m := s.read8 a
  (s.setA (f s.a m)).setCcr (choiceFlags s.ccr s.a m)

/-- The chosen byte to memory, always written (R480, R482, R484). -/
def State.chooseByte (s : State) (f : Byte → Byte → Byte) (op : Indexed) : State :=
  let (a, s) := s.indexed op
  let m := s.read8 a
  (s.write8 a (f s.a m)).setCcr (choiceFlags s.ccr s.a m)

/-- The chosen word to D (R480, R485, R487). -/
def State.chooseD (s : State) (f : Word → Word → Word) (op : Indexed) : State :=
  let (a, s) := s.indexed op
  let m := s.read16 a
  (s.setD (f s.d m)).setCcr (choiceFlags s.ccr s.d m)

/-- The chosen word to memory, always written (R480, R486, R488). -/
def State.chooseWord (s : State) (f : Word → Word → Word) (op : Indexed) : State :=
  let (a, s) := s.indexed op
  let m := s.read16 a
  (s.write16 a (f s.d m)).setCcr (choiceFlags s.ccr s.d m)

/-- The flags of EMACS: N, Z and V of the 32-bit sum, C the carry out of its bit 15 (R490, C14). -/
def macFlags (acc i r : BitVec 32) (f : Ccr) : Ccr :=
  { f with
    n := r.msb
    z := r == 0
    v := (acc.msb && i.msb && !r.msb) || (!acc.msb && !i.msb && r.msb)
    c := (acc.getLsbD 15 && i.getLsbD 15) || (i.getLsbD 15 && !r.getLsbD 15) ||
      (!r.getLsbD 15 && acc.getLsbD 15) }

/-- EMACS: operands at X and Y, accumulator at the extended address, read and written as two words, high first
(R490). -/
def State.multiplyAccumulate (s : State) (ea : Word) : State :=
  let p := s.read16 s.x
  let q := s.read16 s.y
  let acc : BitVec 32 := s.read16 ea ++ s.read16 (ea + 2#16)
  let i : BitVec 32 := p.signExtend 32 * q.signExtend 32
  let r := acc + i
  ((s.write16 ea (r.extractLsb' 16 16)).write16 (ea + 2#16) (r.extractLsb' 0 16)).flags (macFlags acc i r)

/-- TBL (R492, R493). -/
def State.tableByte (s : State) (op : Indexed) : State :=
  let (a, s) := s.indexed op
  let out := aluTable s.ccr s.b (s.read8 a) (s.read8 (a + 1#16))
  (s.setA out.1).setCcr out.2

/-- ETBL (R492, R494). -/
def State.tableWord (s : State) (op : Indexed) : State :=
  let (a, s) := s.indexed op
  let out := aluTable s.ccr s.b (s.read16 a) (s.read16 (a + 2#16))
  (s.setD out.1).setCcr out.2

/-! ## The instructions -/

/-- MAXA (R481). -/
def execMaxa (op : Indexed) (s : State) : Result := .next (s.chooseA maxOf op)

/-- MAXM (R482). -/
def execMaxm (op : Indexed) (s : State) : Result := .next (s.chooseByte maxOf op)

/-- MINA (R483). -/
def execMina (op : Indexed) (s : State) : Result := .next (s.chooseA minOf op)

/-- MINM (R484). -/
def execMinm (op : Indexed) (s : State) : Result := .next (s.chooseByte minOf op)

/-- EMAXD (R485). -/
def execEmaxd (op : Indexed) (s : State) : Result := .next (s.chooseD maxOf op)

/-- EMAXM (R486). -/
def execEmaxm (op : Indexed) (s : State) : Result := .next (s.chooseWord maxOf op)

/-- EMIND (R487). -/
def execEmind (op : Indexed) (s : State) : Result := .next (s.chooseD minOf op)

/-- EMINM (R488). -/
def execEminm (op : Indexed) (s : State) : Result := .next (s.chooseWord minOf op)

/-- EMACS (R490). -/
def execEmacs (addr : Word) (s : State) : Result := .next (s.multiplyAccumulate addr)

/-- TBL (R493). -/
def execTbl (op : Indexed) (s : State) : Result := .next (s.tableByte op)

/-- ETBL (R494). -/
def execEtbl (op : Indexed) (s : State) : Result := .next (s.tableWord op)

end Sys2Proof.Machine
end

