-- ==== Sys2Proof/Machine/Move.lean ====
section
/-!
DEFINITION. Memory-to-memory moves (40_load_store_transfer_move.md R215 to R219).
-/

namespace Sys2Proof.Machine

/-- How far before NextPC the base of a PC-relative source lies, by the destination's form: 1 for IDX1, 2 for IDX2 and
[IDX2] (R108, R217). -/
def moveSourceLag : Indexed → Word
  | .off5 _ _ => 0#16
  | .auto _ _ _ => 0#16
  | .acc _ _ => 0#16
  | .off9 _ _ => 1#16
  | .off16 _ _ => 2#16
  | .ind16 _ _ => 2#16
  | .indD _ => 0#16

/-- The PC a PC-relative source of a move with an indexed destination counts from: NextPC less the lag on CPU12X, NextPC
on CPU12 (R217, N9; log 38). -/
def State.moveSourceBase (s : State) (dst : Indexed) : Word :=
  if s.cfg.version.isX then s.pc - moveSourceLag dst else s.pc

/-- The source address of a move, the destination address and the state after both: source first by role, then
destination, which sees the registers as the source left them (R216). An immediate source has no address. -/
def State.moveAddresses {α : Type} (s : State) : Move α → Option Word × Word × State
  | .immExt _ d => (none, d, s)
  | .immIdx _ d =>
    let (da, s1) := s.indexed d
    (none, da, s1)
  | .extExt a d => (some a, d, s)
  | .extIdx a d =>
    let (da, s1) := s.indexed d
    (some a, da, s1)
  | .idxExt x d =>
    let (sa, s1) := s.indexed x
    (some sa, d, s1)
  | .idxIdx x d =>
    let (sa, s1) := s.indexedFrom (s.moveSourceBase d) x
    let (da, s2) := s1.indexed d
    (some sa, da, s2)

/-- The immediate of a move with an immediate source. -/
def moveImmediate {α : Type} : Move α → Option α
  | .immExt v _ => some v
  | .immIdx v _ => some v
  | .extExt _ _ => none
  | .extIdx _ _ => none
  | .idxExt _ _ => none
  | .idxIdx _ _ => none

/-- MOVB: source read, then destination written (R215, R216). -/
def State.moveByte (s : State) (m : Move Byte) : State :=
  let (sa, da, s1) := s.moveAddresses m
  let v := match moveImmediate m, sa with
    | some k, _ => k
    | none, some a => s1.read8 a
    | none, none => 0#8
  s1.write8 da v

/-- MOVW: the whole source word is read before any byte of the destination is written (R216, R218). -/
def State.moveWord (s : State) (m : Move Word) : State :=
  let (sa, da, s1) := s.moveAddresses m
  let v := match moveImmediate m, sa with
    | some k, _ => k
    | none, some a => s1.read16 a
    | none, none => 0#16
  s1.write16 da v

/-! ## The instructions -/

/-- MOVB (R215). -/
def execMovb (m : Move Byte) (s : State) : Result := .next (s.moveByte m)

/-- MOVW (R218). -/
def execMovw (m : Move Word) (s : State) : Result := .next (s.moveWord m)

end Sys2Proof.Machine
end

