-- ==== Sys2Proof/Machine/MulDiv.lean ====
section
/-!
DEFINITION. Multiplication and division (43_mul_div.md R380 to R389). An undefined flag or register is a free value
(U8, U9; log 9); the signed quotient is truncated towards zero (R388, D22; log 17).
-/

namespace Sys2Proof.Machine

/-- The high word of a 32-bit value. -/
def highWord (v : BitVec 32) : Word := v.extractLsb' 16 16

/-- The low word of a 32-bit value. -/
def lowWord (v : BitVec 32) : Word := v.extractLsb' 0 16

/-- Y:D as one value (R381, R383). -/
def State.yd (s : State) : BitVec 32 := s.y ++ s.d

/-- Writes Y:D. -/
def State.setYd (s : State) (v : BitVec 32) : State := (s.setY (highWord v)).setD (lowWord v)

/-- Flags of EMUL and EMULS: V is not affected (R381, R382). -/
def mulFlags (r : BitVec 32) (f : Ccr) : Ccr := { f with n := r.msb, z := r == 0, c := r.getLsbD 15 }

/-- MUL (R380). -/
def State.mul8 (s : State) : State :=
  let r : Word := zextByte s.a * zextByte s.b
  (s.setD r).flags fun f => { f with c := r.getLsbD 7 }

/-- EMUL (R381). -/
def State.mul16 (s : State) : State :=
  let r : BitVec 32 := s.d.zeroExtend 32 * s.y.zeroExtend 32
  (s.setYd r).flags (mulFlags r)

/-- EMULS (R382). -/
def State.mul16Signed (s : State) : State :=
  let r : BitVec 32 := s.d.signExtend 32 * s.y.signExtend 32
  (s.setYd r).flags (mulFlags r)

/-- Flags after a division by zero that leaves N, Z and V undefined (R383, R384, R387, U8). -/
def State.divByZeroFlags (s : State) : State :=
  s.flags fun f => { f with n := s.freeFlag .n, z := s.freeFlag .z, v := s.freeFlag .v, c := true }

/-- Flags after an overflow that leaves N and Z undefined (R383, R384, R387, U8). -/
def State.divOverflowFlags (s : State) : State :=
  s.flags fun f => { f with n := s.freeFlag .n, z := s.freeFlag .z, v := true, c := false }

/-- Flags of a quotient: N and Z from it, V and C clear (R383, R384, R387). -/
def quotientFlags (q : Word) (f : Ccr) : Ccr := { f with n := q.msb, z := q == 0, v := false, c := false }

/-- EDIV (R383). -/
def State.div32 (s : State) : State :=
  let num := s.yd.toNat
  let d := s.x.toNat
  if d = 0 then s.divByZeroFlags
  else if 0xFFFF < num / d then s.divOverflowFlags
  else
    let q := BitVec.ofNat 16 (num / d)
    ((s.setY q).setD (BitVec.ofNat 16 (num % d))).flags (quotientFlags q)

/-- EDIVS (R384, R388). -/
def State.div32Signed (s : State) : State :=
  let num := s.yd.toInt
  let d := s.x.toInt
  if d = 0 then s.divByZeroFlags
  else if 32767 < num.tdiv d ∨ num.tdiv d < -32768 then s.divOverflowFlags
  else
    let q := BitVec.ofInt 16 (num.tdiv d)
    ((s.setY q).setD (BitVec.ofInt 16 (num.tmod d))).flags (quotientFlags q)

/-- FDIV: the remainder is undefined in both error cases; N is not affected (R385, U8). -/
def State.divFraction (s : State) : State :=
  let num := s.d.toNat
  let d := s.x.toNat
  if d ≤ num then
    ((s.setX 0xFFFF#16).setD (s.freeWord .d)).flags fun f => { f with z := false, v := true, c := decide (d = 0) }
  else
    let q := BitVec.ofNat 16 (num * 65536 / d)
    ((s.setX q).setD (BitVec.ofNat 16 (num * 65536 % d))).flags
      fun f => { f with z := q == 0, v := false, c := false }

/-- IDIV: the remainder is undefined after a division by zero; N is not affected (R386, U8). -/
def State.div16 (s : State) : State :=
  let num := s.d.toNat
  let d := s.x.toNat
  if d = 0 then
    ((s.setX 0xFFFF#16).setD (s.freeWord .d)).flags fun f => { f with z := false, v := false, c := true }
  else
    let q := BitVec.ofNat 16 (num / d)
    ((s.setX q).setD (BitVec.ofNat 16 (num % d))).flags fun f => { f with z := q == 0, v := false, c := false }

/-- IDIVS: X and D are undefined in the one overflow case (R387, R388, U8, U9). -/
def State.div16Signed (s : State) : State :=
  let num := s.d.toInt
  let d := s.x.toInt
  if d = 0 then s.divByZeroFlags
  else if s.d = 0x8000#16 ∧ s.x = 0xFFFF#16 then
    ((s.setX (s.freeWord .x)).setD (s.freeWord .d)).divOverflowFlags
  else
    let q := BitVec.ofInt 16 (num.tdiv d)
    ((s.setX q).setD (BitVec.ofInt 16 (num.tmod d))).flags (quotientFlags q)

/-! ## The instructions -/

/-- MUL (R380). -/
def execMul (s : State) : Result := .next (s.mul8)

/-- EMUL (R381). -/
def execEmul (s : State) : Result := .next (s.mul16)

/-- EMULS (R382). -/
def execEmuls (s : State) : Result := .next (s.mul16Signed)

/-- EDIV (R383). -/
def execEdiv (s : State) : Result := .next (s.div32)

/-- EDIVS (R384). -/
def execEdivs (s : State) : Result := .next (s.div32Signed)

/-- FDIV (R385). -/
def execFdiv (s : State) : Result := .next (s.divFraction)

/-- IDIV (R386). -/
def execIdiv (s : State) : Result := .next (s.div16)

/-- IDIVS (R387). -/
def execIdivs (s : State) : Result := .next (s.div16Signed)

end Sys2Proof.Machine
end

