-- ==== Sys2Proof/Machine/Stack.lean ====
section
/-!
DEFINITION. Push, pull, NOP, WAI and STOP (48_stack_index_ccr_misc.md R560 to R601).
-/

namespace Sys2Proof.Machine

/-- WAI: the frame is stacked and the CPU waits; in user state nothing happens (R595, R598). -/
def State.waitForInterrupt (s : State) : State :=
  if s.userState then s else (s.stackFrame s.pc).setRun .waiting

/-- STOP: nothing happens when S is set or in user state, else the frame is stacked and the CPU stops (R595, R599). -/
def State.stopProcessing (s : State) : State :=
  if s.ccr.s || s.userState then s else (s.stackFrame s.pc).setRun .stopped

/-! ## The instructions -/

/-- PSHA (R561). -/
def execPsha (s : State) : Result := .next (s.push8 s.a)

/-- PSHB (R562). -/
def execPshb (s : State) : Result := .next (s.push8 s.b)

/-- PSHC (R563). -/
def execPshc (s : State) : Result := .next (s.push8 s.ccrByte)

/-- PSHD (R565). -/
def execPshd (s : State) : Result := .next (s.push16 s.d)

/-- PSHX (R566). -/
def execPshx (s : State) : Result := .next (s.push16 s.x)

/-- PSHY (R567). -/
def execPshy (s : State) : Result := .next (s.push16 s.y)

/-- PULA (R570). -/
def execPula (s : State) : Result := .next ((s.drop 1).setA s.top8)

/-- PULB (R571). -/
def execPulb (s : State) : Result := .next ((s.drop 1).setB s.top8)

/-- PULC (R572). -/
def execPulc (s : State) : Result := .next ((s.drop 1).writeCcr s.top8)

/-- PULD (R574). -/
def execPuld (s : State) : Result := .next ((s.drop 2).setD s.top16)

/-- PULX (R575). -/
def execPulx (s : State) : Result := .next ((s.drop 2).setX s.top16)

/-- PULY (R576). -/
def execPuly (s : State) : Result := .next ((s.drop 2).setY s.top16)

/-- PSHCW (R564). -/
def execPshcw (s : State) : Result := .next (s.push16 s.ccrw)

/-- PULCW (R573). -/
def execPulcw (s : State) : Result := .next ((s.drop 2).writeCcrw s.top16)

/-- NOP (R590). -/
def execNop (s : State) : Result := .next s

/-- WAI (R598). -/
def execWai (s : State) : Result := .next (s.waitForInterrupt)

/-- STOP (R599). -/
def execStop (s : State) : Result := .next (s.stopProcessing)

end Sys2Proof.Machine
end

