-- ==== Sys2Proof/Machine/Transfer.lean ====
section
/-!
DEFINITION. Transfer, exchange and sign-extend (40_load_store_transfer_move.md R190 to R211).
-/

namespace Sys2Proof.Machine

/-- The 16-bit registers a postbyte can name (R191, R202). -/
inductive WordSlot where
  | d | x | y | sp | tmp1 | tmp2 | tmp3 | ccrw
  deriving DecidableEq, Repr

/-- The 8-bit registers and register halves a postbyte can name (R191, R202). -/
inductive ByteSlot where
  | a | b | ccr | ccrh
  | high (r : WordSlot)
  | low (r : WordSlot)
  deriving DecidableEq, Repr

/-- One side of a transfer or an exchange. -/
inductive Slot where
  | byte (p : ByteSlot)
  | word (r : WordSlot)
  deriving DecidableEq, Repr

/-- The value of a 16-bit slot; a temporary that was not just written is a free value (R39). -/
def State.wordSlot (s : State) : WordSlot → Word
  | .d => s.d
  | .x => s.x
  | .y => s.y
  | .sp => s.sp
  | .tmp1 => s.readTmp 1 s.tmp1
  | .tmp2 => s.readTmp 2 s.tmp2
  | .tmp3 => s.readTmp 3 s.tmp3
  | .ccrw => s.ccrw

/-- Writes a 16-bit slot; CCRW through its write path (R201). -/
def State.setWordSlot (s : State) (r : WordSlot) (v : Word) : State :=
  match r with
  | .d => s.setD v
  | .x => s.setX v
  | .y => s.setY v
  | .sp => s.setSp v
  | .tmp1 => s.setTmp1 (s.tmpWritten v)
  | .tmp2 => s.setTmp2 (s.tmpWritten v)
  | .tmp3 => s.setTmp3 (s.tmpWritten v)
  | .ccrw => s.writeCcrw v

/-- The value of an 8-bit slot (R199, R202). -/
def State.byteSlot (s : State) : ByteSlot → Byte
  | .a => s.a
  | .b => s.b
  | .ccr => s.ccrByte
  | .ccrh => s.ccrhByte
  | .high r => hiByte (s.wordSlot r)
  | .low r => loByte (s.wordSlot r)

/-- Writes an 8-bit slot; the other half of a register stays (R202), CCR and CCRH go through their write paths (R200,
R201). -/
def State.setByteSlot (s : State) (p : ByteSlot) (v : Byte) : State :=
  match p with
  | .a => s.setA v
  | .b => s.setB v
  | .ccr => s.writeCcr v
  | .ccrh => s.writeCcrh v
  | .high r => s.setWordSlot r (joinBytes v (loByte (s.wordSlot r)))
  | .low r => s.setWordSlot r (joinBytes (hiByte (s.wordSlot r)) v)

/-- The slot of a source code, bit 3 clear: code 3 is TMP3 (R120, R191). -/
def sourceSlot : XReg → Slot
  | .a => .byte .a
  | .b => .byte .b
  | .ccr => .byte .ccr
  | .tmp => .word .tmp3
  | .d => .word .d
  | .x => .word .x
  | .y => .word .y
  | .sp => .word .sp

/-- The slot of a destination code, bit 3 clear: code 3 is TMP2 (R120, R191). -/
def destSlot : XReg → Slot
  | .a => .byte .a
  | .b => .byte .b
  | .ccr => .byte .ccr
  | .tmp => .word .tmp2
  | .d => .word .d
  | .x => .word .x
  | .y => .word .y
  | .sp => .word .sp

/-- Source and destination of the CPU12X variants, bit 3 set (R202, R203); the two columns of a row are the halves the
table pairs. -/
def variantSlots (src dst : XReg) : Slot × Slot :=
  match src, dst with
  | .a, .a => (.byte .a, .byte .a)
  | .a, .b => (.byte .a, .byte .b)
  | .a, .ccr => (.byte .a, .byte .ccrh)
  | .a, .tmp => (.byte .a, .byte (.high .tmp2))
  | .a, .d => (.byte .a, .word .d)
  | .a, .x => (.byte .a, .byte (.high .x))
  | .a, .y => (.byte .a, .byte (.high .y))
  | .a, .sp => (.byte .a, .byte (.high .sp))
  | .b, .a => (.byte .b, .byte .a)
  | .b, .b => (.byte .b, .byte .b)
  | .b, .ccr => (.byte .b, .byte .ccr)
  | .b, .tmp => (.byte .b, .byte (.low .tmp2))
  | .b, .d => (.byte .b, .word .d)
  | .b, .x => (.byte .b, .byte (.low .x))
  | .b, .y => (.byte .b, .byte (.low .y))
  | .b, .sp => (.byte .b, .byte (.low .sp))
  | .ccr, .a => (.byte .ccrh, .byte .a)
  | .ccr, .b => (.byte .ccr, .byte .b)
  | .ccr, .ccr => (.word .ccrw, .word .ccrw)
  | .ccr, .tmp => (.word .ccrw, .word .tmp2)
  | .ccr, .d => (.word .ccrw, .word .d)
  | .ccr, .x => (.word .ccrw, .word .x)
  | .ccr, .y => (.word .ccrw, .word .y)
  | .ccr, .sp => (.word .ccrw, .word .sp)
  | .tmp, .a => (.byte (.high .tmp3), .byte .a)
  | .tmp, .b => (.byte (.low .tmp3), .byte .b)
  | .tmp, .ccr => (.word .tmp3, .word .ccrw)
  | .tmp, .tmp => (.word .tmp3, .word .tmp2)
  | .tmp, .d => (.word .tmp1, .word .d)
  | .tmp, .x => (.word .tmp3, .word .x)
  | .tmp, .y => (.word .tmp3, .word .y)
  | .tmp, .sp => (.word .tmp3, .word .sp)
  | .d, .a => (.byte .b, .byte .a)
  | .d, .b => (.byte .b, .byte .b)
  | .d, .ccr => (.word .d, .word .ccrw)
  | .d, .tmp => (.word .d, .word .tmp1)
  | .d, .d => (.word .d, .word .d)
  | .d, .x => (.word .d, .word .x)
  | .d, .y => (.word .d, .word .y)
  | .d, .sp => (.word .d, .word .sp)
  | .x, .a => (.byte (.high .x), .byte .a)
  | .x, .b => (.byte (.low .x), .byte .b)
  | .x, .ccr => (.word .x, .word .ccrw)
  | .x, .tmp => (.word .x, .word .tmp2)
  | .x, .d => (.word .x, .word .d)
  | .x, .x => (.word .x, .word .x)
  | .x, .y => (.word .x, .word .y)
  | .x, .sp => (.word .x, .word .sp)
  | .y, .a => (.byte (.high .y), .byte .a)
  | .y, .b => (.byte (.low .y), .byte .b)
  | .y, .ccr => (.word .y, .word .ccrw)
  | .y, .tmp => (.word .y, .word .tmp2)
  | .y, .d => (.word .y, .word .d)
  | .y, .x => (.word .y, .word .x)
  | .y, .y => (.word .y, .word .y)
  | .y, .sp => (.word .y, .word .sp)
  | .sp, .a => (.byte (.high .sp), .byte .a)
  | .sp, .b => (.byte (.low .sp), .byte .b)
  | .sp, .ccr => (.word .sp, .word .ccrw)
  | .sp, .tmp => (.word .sp, .word .tmp2)
  | .sp, .d => (.word .sp, .word .d)
  | .sp, .x => (.word .sp, .word .x)
  | .sp, .y => (.word .sp, .word .y)
  | .sp, .sp => (.word .sp, .word .sp)
/-- A transfer by the widths of its two sides (R191): sign-extension into a wider register, the low byte into a
narrower one. -/
def State.transfer (s : State) (src dst : Slot) : State :=
  match src, dst with
  | .byte p, .byte q => s.setByteSlot q (s.byteSlot p)
  | .byte p, .word r => s.setWordSlot r (sextByte (s.byteSlot p))
  | .word r, .byte q => s.setByteSlot q (loByte (s.wordSlot r))
  | .word r, .word t => s.setWordSlot t (s.wordSlot r)

/-- A true exchange of two slots of one width, from the old values (R193, R203). -/
def State.exchangeBytes (s : State) (p q : ByteSlot) : State :=
  (s.setByteSlot q (s.byteSlot p)).setByteSlot p (s.byteSlot q)

/-- A true exchange of two 16-bit slots, from the old values (R193, R203). -/
def State.exchangeWords (s : State) (p q : WordSlot) : State :=
  (s.setWordSlot q (s.wordSlot p)).setWordSlot p (s.wordSlot q)

/-- 8-bit r1, 16-bit r2: r1 zero-extended into r2, the low byte of r2 into r1; into D, A and B are not written back, CCR
takes the old B (R193). -/
def State.exchangeByteWord (s : State) (p : ByteSlot) (r : WordSlot) : State :=
  let v := zextByte (s.byteSlot p)
  let low := loByte (s.wordSlot r)
  if r == .d && (p == .a || p == .b) then s.setD v
  else (s.setWordSlot r v).setByteSlot p low

/-- 16-bit r1, 8-bit r2: the low byte of r1 into r2, r2 into r1 under $00 for A, under $FF for B and CCR; with D, A is an
exchange of A and B, and B leaves B as it is and writes $FF to A (R193). -/
def State.exchangeWordByte (s : State) (r : WordSlot) (q : ByteSlot) : State :=
  let low := loByte (s.wordSlot r)
  if r == .d && q == .a then (s.setA s.b).setB s.a
  else if r == .d && q == .b then s.setA 0xFF#8
  else
    let top := if q == .a then 0x00#8 else 0xFF#8
    (s.setWordSlot r (joinBytes top (s.byteSlot q))).setByteSlot q low

/-- An exchange with bit 3 clear, by the widths of its two sides (R193). -/
def State.exchange (s : State) (src dst : Slot) : State :=
  match src, dst with
  | .byte p, .byte q => s.exchangeBytes p q
  | .byte p, .word r => s.exchangeByteWord p r
  | .word r, .byte q => s.exchangeWordByte r q
  | .word r, .word t => s.exchangeWords r t

/-- An exchange with bit 3 set: `8C` and `9C` zero-extend into D, `C9` writes $FF to A, every other pair is a true
exchange (R203). -/
def State.exchangeVariant (s : State) (src dst : XReg) : State :=
  if src == .d && dst == .b then s.setA 0xFF#8
  else
    match variantSlots src dst with
    | (.byte p, .byte q) => s.exchangeBytes p q
    | (.byte p, .word r) => s.setWordSlot r (zextByte (s.byteSlot p))
    | (.word r, .byte q) => s.exchangeWordByte r q
    | (.word r, .word t) => s.exchangeWords r t

/-- A transfer of any postbyte (R191, R202). -/
def State.tfr (s : State) (hi : Bool) (src dst : XReg) : State :=
  if hi then s.transfer (variantSlots src dst).1 (variantSlots src dst).2
  else s.transfer (sourceSlot src) (destSlot dst)

/-- A word filled with the sign of D (R204). -/
def State.signOfD (s : State) : Word := if s.d.msb then 0xFFFF#16 else 0#16

/-- A transfer that sign-extends (R192); on CPU12X also D into X or Y (R204). -/
def State.sex (s : State) (hi : Bool) (src dst : XReg) : State :=
  if hi && src == .d && dst == .x then s.setX s.signOfD
  else if hi && src == .d && dst == .y then s.setY s.signOfD
  else s.tfr hi src dst

/-! ## The instructions -/

/-- TFR (R191). -/
def execTfr (hi : Bool) (src : XReg) (dst : XReg) (s : State) : Result := .next (s.tfr hi src dst)

/-- SEX (R192). -/
def execSex (hi : Bool) (src : XReg) (dst : XReg) (s : State) : Result := .next (s.sex hi src dst)

/-- EXG (R193). -/
def execExg (hi : Bool) (src : XReg) (dst : XReg) (s : State) : Result := .next (if hi then s.exchangeVariant src dst else s.exchange (sourceSlot src) (destSlot dst))

/-- TAB (R196). -/
def execTab (s : State) : Result := .next ((s.setB s.a).flags (·.nzv0 s.a))

/-- TBA (R197). -/
def execTba (s : State) : Result := .next ((s.setA s.b).flags (·.nzv0 s.b))

/-- TAP (R198). -/
def execTap (s : State) : Result := .next (s.writeCcr s.a)

/-- TPA (R199). -/
def execTpa (s : State) : Result := .next (s.setA s.ccrByte)

/-- TSX (R206). -/
def execTsx (s : State) : Result := .next (s.setX s.sp)

/-- TSY (R207). -/
def execTsy (s : State) : Result := .next (s.setY s.sp)

/-- TXS (R208). -/
def execTxs (s : State) : Result := .next (s.setSp s.x)

/-- TYS (R209). -/
def execTys (s : State) : Result := .next (s.setSp s.y)

/-- XGDX (R210). -/
def execXgdx (s : State) : Result := .next ((s.setX s.d).setD s.x)

/-- XGDY (R211). -/
def execXgdy (s : State) : Result := .next ((s.setY s.d).setD s.y)

end Sys2Proof.Machine
end

