-- ==== Sys2Proof/Machine/Dispatch.lean ====
section
/-!
DEFINITION. The dispatch: one arm per instruction, each one direct call of its meaning. A meaning is entered with the PC
at the next instruction (10_state.md R24).
-/

namespace Sys2Proof.Machine

/-- What an instruction does in a state whose PC is already past it. -/
def exec (i : Instr) (s : State) : Host.Outcome State Fault Refusal :=
  match i with
  | .ldaa op => Sys2Proof.Machine.execLdaa op s
  | .ldab op => Sys2Proof.Machine.execLdab op s
  | .ldd op => Sys2Proof.Machine.execLdd op s
  | .lds op => Sys2Proof.Machine.execLds op s
  | .ldx op => Sys2Proof.Machine.execLdx op s
  | .ldy op => Sys2Proof.Machine.execLdy op s
  | .leas op => Sys2Proof.Machine.execLeas op s
  | .leax op => Sys2Proof.Machine.execLeax op s
  | .leay op => Sys2Proof.Machine.execLeay op s
  | .staa op => Sys2Proof.Machine.execStaa op s
  | .stab op => Sys2Proof.Machine.execStab op s
  | .std op => Sys2Proof.Machine.execStd op s
  | .sts op => Sys2Proof.Machine.execSts op s
  | .stx op => Sys2Proof.Machine.execStx op s
  | .sty op => Sys2Proof.Machine.execSty op s
  | .gldaa op => Sys2Proof.Machine.execGldaa op s
  | .gldab op => Sys2Proof.Machine.execGldab op s
  | .gldd op => Sys2Proof.Machine.execGldd op s
  | .glds op => Sys2Proof.Machine.execGlds op s
  | .gldx op => Sys2Proof.Machine.execGldx op s
  | .gldy op => Sys2Proof.Machine.execGldy op s
  | .gstaa op => Sys2Proof.Machine.execGstaa op s
  | .gstab op => Sys2Proof.Machine.execGstab op s
  | .gstd op => Sys2Proof.Machine.execGstd op s
  | .gsts op => Sys2Proof.Machine.execGsts op s
  | .gstx op => Sys2Proof.Machine.execGstx op s
  | .gsty op => Sys2Proof.Machine.execGsty op s
  | .tfr hi src dst => Sys2Proof.Machine.execTfr hi src dst s
  | .sex hi src dst => Sys2Proof.Machine.execSex hi src dst s
  | .exg hi src dst => Sys2Proof.Machine.execExg hi src dst s
  | .movb m => Sys2Proof.Machine.execMovb m s
  | .movw m => Sys2Proof.Machine.execMovw m s
  | .adca op => Sys2Proof.Machine.execAdca op s
  | .adcb op => Sys2Proof.Machine.execAdcb op s
  | .adda op => Sys2Proof.Machine.execAdda op s
  | .addb op => Sys2Proof.Machine.execAddb op s
  | .addd op => Sys2Proof.Machine.execAddd op s
  | .addx op => Sys2Proof.Machine.execAddx op s
  | .addy op => Sys2Proof.Machine.execAddy op s
  | .aded op => Sys2Proof.Machine.execAded op s
  | .adex op => Sys2Proof.Machine.execAdex op s
  | .adey op => Sys2Proof.Machine.execAdey op s
  | .sbca op => Sys2Proof.Machine.execSbca op s
  | .sbcb op => Sys2Proof.Machine.execSbcb op s
  | .suba op => Sys2Proof.Machine.execSuba op s
  | .subb op => Sys2Proof.Machine.execSubb op s
  | .subd op => Sys2Proof.Machine.execSubd op s
  | .subx op => Sys2Proof.Machine.execSubx op s
  | .suby op => Sys2Proof.Machine.execSuby op s
  | .sbed op => Sys2Proof.Machine.execSbed op s
  | .sbex op => Sys2Proof.Machine.execSbex op s
  | .sbey op => Sys2Proof.Machine.execSbey op s
  | .dec op => Sys2Proof.Machine.execDec op s
  | .decw op => Sys2Proof.Machine.execDecw op s
  | .inc op => Sys2Proof.Machine.execInc op s
  | .incw op => Sys2Proof.Machine.execIncw op s
  | .cmpa op => Sys2Proof.Machine.execCmpa op s
  | .cmpb op => Sys2Proof.Machine.execCmpb op s
  | .cpd op => Sys2Proof.Machine.execCpd op s
  | .cps op => Sys2Proof.Machine.execCps op s
  | .cpx op => Sys2Proof.Machine.execCpx op s
  | .cpy op => Sys2Proof.Machine.execCpy op s
  | .cped op => Sys2Proof.Machine.execCped op s
  | .cpes op => Sys2Proof.Machine.execCpes op s
  | .cpex op => Sys2Proof.Machine.execCpex op s
  | .cpey op => Sys2Proof.Machine.execCpey op s
  | .tst op => Sys2Proof.Machine.execTst op s
  | .tstw op => Sys2Proof.Machine.execTstw op s
  | .anda op => Sys2Proof.Machine.execAnda op s
  | .andb op => Sys2Proof.Machine.execAndb op s
  | .andx op => Sys2Proof.Machine.execAndx op s
  | .andy op => Sys2Proof.Machine.execAndy op s
  | .eora op => Sys2Proof.Machine.execEora op s
  | .eorb op => Sys2Proof.Machine.execEorb op s
  | .eorx op => Sys2Proof.Machine.execEorx op s
  | .eory op => Sys2Proof.Machine.execEory op s
  | .oraa op => Sys2Proof.Machine.execOraa op s
  | .orab op => Sys2Proof.Machine.execOrab op s
  | .orx op => Sys2Proof.Machine.execOrx op s
  | .ory op => Sys2Proof.Machine.execOry op s
  | .andcc mask => Sys2Proof.Machine.execAndcc mask s
  | .orcc mask => Sys2Proof.Machine.execOrcc mask s
  | .clr op => Sys2Proof.Machine.execClr op s
  | .clrw op => Sys2Proof.Machine.execClrw op s
  | .com op => Sys2Proof.Machine.execCom op s
  | .comw op => Sys2Proof.Machine.execComw op s
  | .neg op => Sys2Proof.Machine.execNeg op s
  | .negw op => Sys2Proof.Machine.execNegw op s
  | .bclr op mask => Sys2Proof.Machine.execBclr op mask s
  | .bset op mask => Sys2Proof.Machine.execBset op mask s
  | .btas op mask => Sys2Proof.Machine.execBtas op mask s
  | .bita op => Sys2Proof.Machine.execBita op s
  | .bitb op => Sys2Proof.Machine.execBitb op s
  | .bitx op => Sys2Proof.Machine.execBitx op s
  | .bity op => Sys2Proof.Machine.execBity op s
  | .asl op => Sys2Proof.Machine.execAsl op s
  | .aslw op => Sys2Proof.Machine.execAslw op s
  | .asr op => Sys2Proof.Machine.execAsr op s
  | .asrw op => Sys2Proof.Machine.execAsrw op s
  | .lsr op => Sys2Proof.Machine.execLsr op s
  | .lsrw op => Sys2Proof.Machine.execLsrw op s
  | .rol op => Sys2Proof.Machine.execRol op s
  | .rolw op => Sys2Proof.Machine.execRolw op s
  | .ror op => Sys2Proof.Machine.execRor op s
  | .rorw op => Sys2Proof.Machine.execRorw op s
  | .maxa op => Sys2Proof.Machine.execMaxa op s
  | .maxm op => Sys2Proof.Machine.execMaxm op s
  | .mina op => Sys2Proof.Machine.execMina op s
  | .minm op => Sys2Proof.Machine.execMinm op s
  | .emaxd op => Sys2Proof.Machine.execEmaxd op s
  | .emaxm op => Sys2Proof.Machine.execEmaxm op s
  | .emind op => Sys2Proof.Machine.execEmind op s
  | .eminm op => Sys2Proof.Machine.execEminm op s
  | .emacs addr => Sys2Proof.Machine.execEmacs addr s
  | .tbl op => Sys2Proof.Machine.execTbl op s
  | .etbl op => Sys2Proof.Machine.execEtbl op s
  | .bra rel => Sys2Proof.Machine.execBra rel s
  | .brn rel => Sys2Proof.Machine.execBrn rel s
  | .bcc rel => Sys2Proof.Machine.execBcc rel s
  | .bcs rel => Sys2Proof.Machine.execBcs rel s
  | .beq rel => Sys2Proof.Machine.execBeq rel s
  | .bne rel => Sys2Proof.Machine.execBne rel s
  | .bmi rel => Sys2Proof.Machine.execBmi rel s
  | .bpl rel => Sys2Proof.Machine.execBpl rel s
  | .bvc rel => Sys2Proof.Machine.execBvc rel s
  | .bvs rel => Sys2Proof.Machine.execBvs rel s
  | .bhi rel => Sys2Proof.Machine.execBhi rel s
  | .bhs rel => Sys2Proof.Machine.execBhs rel s
  | .blo rel => Sys2Proof.Machine.execBlo rel s
  | .bls rel => Sys2Proof.Machine.execBls rel s
  | .bge rel => Sys2Proof.Machine.execBge rel s
  | .bgt rel => Sys2Proof.Machine.execBgt rel s
  | .ble rel => Sys2Proof.Machine.execBle rel s
  | .blt rel => Sys2Proof.Machine.execBlt rel s
  | .lbra rel => Sys2Proof.Machine.execLbra rel s
  | .lbrn rel => Sys2Proof.Machine.execLbrn rel s
  | .lbcc rel => Sys2Proof.Machine.execLbcc rel s
  | .lbcs rel => Sys2Proof.Machine.execLbcs rel s
  | .lbeq rel => Sys2Proof.Machine.execLbeq rel s
  | .lbne rel => Sys2Proof.Machine.execLbne rel s
  | .lbmi rel => Sys2Proof.Machine.execLbmi rel s
  | .lbpl rel => Sys2Proof.Machine.execLbpl rel s
  | .lbvc rel => Sys2Proof.Machine.execLbvc rel s
  | .lbvs rel => Sys2Proof.Machine.execLbvs rel s
  | .lbhi rel => Sys2Proof.Machine.execLbhi rel s
  | .lbhs rel => Sys2Proof.Machine.execLbhs rel s
  | .lblo rel => Sys2Proof.Machine.execLblo rel s
  | .lbls rel => Sys2Proof.Machine.execLbls rel s
  | .lbge rel => Sys2Proof.Machine.execLbge rel s
  | .lbgt rel => Sys2Proof.Machine.execLbgt rel s
  | .lble rel => Sys2Proof.Machine.execLble rel s
  | .lblt rel => Sys2Proof.Machine.execLblt rel s
  | .brclr op mask rel => Sys2Proof.Machine.execBrclr op mask rel s
  | .brset op mask rel => Sys2Proof.Machine.execBrset op mask rel s
  | .dbeq r off => Sys2Proof.Machine.execDbeq r off s
  | .dbne r off => Sys2Proof.Machine.execDbne r off s
  | .tbeq r off => Sys2Proof.Machine.execTbeq r off s
  | .tbne r off => Sys2Proof.Machine.execTbne r off s
  | .ibeq r off => Sys2Proof.Machine.execIbeq r off s
  | .ibne r off => Sys2Proof.Machine.execIbne r off s
  | .jmp op => Sys2Proof.Machine.execJmp op s
  | .bsr rel => Sys2Proof.Machine.execBsr rel s
  | .jsr op => Sys2Proof.Machine.execJsr op s
  | .call op => Sys2Proof.Machine.execCall op s
  | .trap tn => Sys2Proof.Machine.execTrap tn s
  | .tab => Sys2Proof.Machine.execTab s
  | .tba => Sys2Proof.Machine.execTba s
  | .tap => Sys2Proof.Machine.execTap s
  | .tpa => Sys2Proof.Machine.execTpa s
  | .tsx => Sys2Proof.Machine.execTsx s
  | .tsy => Sys2Proof.Machine.execTsy s
  | .txs => Sys2Proof.Machine.execTxs s
  | .tys => Sys2Proof.Machine.execTys s
  | .xgdx => Sys2Proof.Machine.execXgdx s
  | .xgdy => Sys2Proof.Machine.execXgdy s
  | .aba => Sys2Proof.Machine.execAba s
  | .abx => Sys2Proof.Machine.execAbx s
  | .aby => Sys2Proof.Machine.execAby s
  | .sba => Sys2Proof.Machine.execSba s
  | .daa => Sys2Proof.Machine.execDaa s
  | .deca => Sys2Proof.Machine.execDeca s
  | .decb => Sys2Proof.Machine.execDecb s
  | .decx => Sys2Proof.Machine.execDecx s
  | .decy => Sys2Proof.Machine.execDecy s
  | .des => Sys2Proof.Machine.execDes s
  | .dex => Sys2Proof.Machine.execDex s
  | .dey => Sys2Proof.Machine.execDey s
  | .inca => Sys2Proof.Machine.execInca s
  | .incb => Sys2Proof.Machine.execIncb s
  | .incx => Sys2Proof.Machine.execIncx s
  | .incy => Sys2Proof.Machine.execIncy s
  | .ins => Sys2Proof.Machine.execIns s
  | .inx => Sys2Proof.Machine.execInx s
  | .iny => Sys2Proof.Machine.execIny s
  | .cba => Sys2Proof.Machine.execCba s
  | .tsta => Sys2Proof.Machine.execTsta s
  | .tstb => Sys2Proof.Machine.execTstb s
  | .tstx => Sys2Proof.Machine.execTstx s
  | .tsty => Sys2Proof.Machine.execTsty s
  | .clc => Sys2Proof.Machine.execClc s
  | .cli => Sys2Proof.Machine.execCli s
  | .clv => Sys2Proof.Machine.execClv s
  | .sec => Sys2Proof.Machine.execSec s
  | .sei => Sys2Proof.Machine.execSei s
  | .sev => Sys2Proof.Machine.execSev s
  | .clra => Sys2Proof.Machine.execClra s
  | .clrb => Sys2Proof.Machine.execClrb s
  | .clrx => Sys2Proof.Machine.execClrx s
  | .clry => Sys2Proof.Machine.execClry s
  | .coma => Sys2Proof.Machine.execComa s
  | .comb => Sys2Proof.Machine.execComb s
  | .comx => Sys2Proof.Machine.execComx s
  | .comy => Sys2Proof.Machine.execComy s
  | .nega => Sys2Proof.Machine.execNega s
  | .negb => Sys2Proof.Machine.execNegb s
  | .negx => Sys2Proof.Machine.execNegx s
  | .negy => Sys2Proof.Machine.execNegy s
  | .mul => Sys2Proof.Machine.execMul s
  | .emul => Sys2Proof.Machine.execEmul s
  | .emuls => Sys2Proof.Machine.execEmuls s
  | .ediv => Sys2Proof.Machine.execEdiv s
  | .edivs => Sys2Proof.Machine.execEdivs s
  | .fdiv => Sys2Proof.Machine.execFdiv s
  | .idiv => Sys2Proof.Machine.execIdiv s
  | .idivs => Sys2Proof.Machine.execIdivs s
  | .asla => Sys2Proof.Machine.execAsla s
  | .aslb => Sys2Proof.Machine.execAslb s
  | .asld => Sys2Proof.Machine.execAsld s
  | .aslx => Sys2Proof.Machine.execAslx s
  | .asly => Sys2Proof.Machine.execAsly s
  | .asra => Sys2Proof.Machine.execAsra s
  | .asrb => Sys2Proof.Machine.execAsrb s
  | .asrx => Sys2Proof.Machine.execAsrx s
  | .asry => Sys2Proof.Machine.execAsry s
  | .lsra => Sys2Proof.Machine.execLsra s
  | .lsrb => Sys2Proof.Machine.execLsrb s
  | .lsrd => Sys2Proof.Machine.execLsrd s
  | .lsrx => Sys2Proof.Machine.execLsrx s
  | .lsry => Sys2Proof.Machine.execLsry s
  | .rola => Sys2Proof.Machine.execRola s
  | .rolb => Sys2Proof.Machine.execRolb s
  | .rolx => Sys2Proof.Machine.execRolx s
  | .roly => Sys2Proof.Machine.execRoly s
  | .rora => Sys2Proof.Machine.execRora s
  | .rorb => Sys2Proof.Machine.execRorb s
  | .rorx => Sys2Proof.Machine.execRorx s
  | .rory => Sys2Proof.Machine.execRory s
  | .mem => Sys2Proof.Machine.execMem s
  | .rev => Sys2Proof.Machine.execRev s
  | .revw => Sys2Proof.Machine.execRevw s
  | .wav => Sys2Proof.Machine.execWav s
  | .wavr => Sys2Proof.Machine.execWavr s
  | .rts => Sys2Proof.Machine.execRts s
  | .rtc => Sys2Proof.Machine.execRtc s
  | .rti => Sys2Proof.Machine.execRti s
  | .swi => Sys2Proof.Machine.execSwi s
  | .sys => Sys2Proof.Machine.execSys s
  | .bgnd => Sys2Proof.Machine.execBgnd s
  | .psha => Sys2Proof.Machine.execPsha s
  | .pshb => Sys2Proof.Machine.execPshb s
  | .pshc => Sys2Proof.Machine.execPshc s
  | .pshd => Sys2Proof.Machine.execPshd s
  | .pshx => Sys2Proof.Machine.execPshx s
  | .pshy => Sys2Proof.Machine.execPshy s
  | .pula => Sys2Proof.Machine.execPula s
  | .pulb => Sys2Proof.Machine.execPulb s
  | .pulc => Sys2Proof.Machine.execPulc s
  | .puld => Sys2Proof.Machine.execPuld s
  | .pulx => Sys2Proof.Machine.execPulx s
  | .puly => Sys2Proof.Machine.execPuly s
  | .pshcw => Sys2Proof.Machine.execPshcw s
  | .pulcw => Sys2Proof.Machine.execPulcw s
  | .nop => Sys2Proof.Machine.execNop s
  | .wai => Sys2Proof.Machine.execWai s
  | .stop => Sys2Proof.Machine.execStop s

end Sys2Proof.Machine
end

