-- ==== Sys2Proof/Machine/Boundary.lean ====
section
/-!
DEFINITION. The step boundary: which request is recognised, how it is entered, waking from WAI and STOP, fetching an
instruction's bytes, and the step loop (60_exceptions.md R625, R626, R651; 48_stack_index_ccr_misc.md R598, R599;
47_jump_call_interrupt.md R542, R549).
-/

namespace Sys2Proof.Machine

/-! ## Recognition (R626) -/

/-- A recognised request: the low byte of its vector address and its kind with its level. -/
structure Request where
  vec : Byte
  kind : EntryKind
  deriving DecidableEq, Repr

/-- A request's level is above the current one; there are levels on CPU12X only (R36, R626). -/
def State.admits (s : State) (r : Irq) : Bool := !s.cfg.version.isX || s.ccrh.ipl.toNat < r.level.toNat

/-- The one of two I-maskable requests that goes first: on CPU12X the higher level, then the higher vector address; on
CPU12 the higher vector address (R625 item 4). -/
def betterIrq (isX : Bool) (p q : Irq) : Irq :=
  if isX then
    if p.level.toNat < q.level.toNat || (p.level == q.level && p.vec.toNat < q.vec.toNat) then q else p
  else if p.vec.toNat < q.vec.toNat then q else p

/-- The first I-maskable request of a list in the order of R625. -/
def bestIrq (isX : Bool) : List Irq → Option Irq
  | [] => none
  | r :: rs =>
    match bestIrq isX rs with
    | none => some r
    | some q => some (betterIrq isX r q)

/-- `Recognised(Env)`: access error, XIRQ with XM clear, I-maskable with I clear and no inhibit (R625, R626). -/
def State.recognised (s : State) (env : Env) : Option Request :=
  match env.nmi with
  | some vec => some { vec := vec, kind := .nmi env.nmiLevel }
  | none =>
    if env.xirq && !s.ccr.x then some { vec := 0xF4#8, kind := .xirq env.xirqLevel }
    else if !s.ccr.i && !s.iDelay then
      match bestIrq s.cfg.version.isX (env.irqs.filter s.admits) with
      | some r => some { vec := r.vec, kind := .irq r.level }
      | none => none
    else none

/-! ## Entering -/

/-- Entering a recognised request at a boundary of a running CPU: after an RTI with the frame just pulled (R542), else
with a fresh frame whose return address is the next instruction, the sums of an interrupted WAV below it (R478, R623,
R651). -/
def State.enterRequest (s : State) (r : Request) : State :=
  if s.rtiFrame then s.reenter r.vec r.kind else s.wavSuspend.enter r.vec s.pc r.kind

/-- Waking from WAI or STOP: a recognised request enters without stacking; XIRQ with XM set drops the frame and goes on
with the next instruction; else the state stays (R598, R599, R647). -/
def State.wake (s : State) (env : Env) : State :=
  match s.recognised env with
  | some r => s.enterStacked r.vec r.kind
  | none => if env.xirq && s.ccr.x then (s.drop s.frameSize).setRun .running else s

/-- An instruction the debug module forces in place of the next one, which the return address or the PC still names
(R549; log 32). DESIGN CHOICE, unsafe: a SWI forced while a WAV is in progress counts B down and stacks the sums first, as
an interrupt does (R478, D23), and the debug module's inputs do it at a boundary below every request; R549 names neither
the sums nor the moment (log 19, log 32). -/
def State.force (s : State) : Forced → State
  | .swi => s.wavSuspend.enter 0xF6#8 s.pc .software
  | .bgnd => s.background

/-! ## Fetching -/

/-- The eight bytes at the PC (R85, R86: read from memory as the instruction executes). -/
def State.fetchBytes (s : State) : List Byte := (eightFrom s.pc).map s.read8

/-- The refusal of a decoder's answer. -/
def DecodeError.refusal : DecodeError → Refusal
  | .truncated => .longInstruction
  | .indexedForm => .reservedIndexedForm
  | .loopPostbyte => .reservedLoopPostbyte
  | .transferBit3 => .reservedTransferBit3

/-- The addresses of an instruction of `n` bytes at the PC. -/
def State.codeAddresses (s : State) (n : Nat) : List Word := (eightFrom s.pc).take n

/-- The instruction at the PC and its length; refused where a byte of it was stored to while it may have been queued (R86,
R91, D7). -/
def State.fetch (s : State) : Except Refusal (Instr × Nat) :=
  match decode s.cfg.version s.fetchBytes with
  | .error e => .error (DecodeError.refusal e)
  | .ok (i, rest) =>
    let n := 8 - rest.length
    if (s.codeAddresses n).any fun a => s.stale.contains a then .error .storedIntoQueue else .ok (i, n)

/-- A byte of an instruction of `n` bytes at the PC lies in the program window of an expanded map (R68). -/
def State.runsInWindow (s : State) (n : Nat) : Bool := s.cfg.phys.expanded && (s.codeAddresses n).any inWindow

/-- What is left of an instruction of `n` bytes at the PC once it has run: nothing where it lies in the window and has
stored to PPAGE (R696, U20; log 43). -/
def State.continued (s : State) (n : Nat) : Result → Result
  | .next t => if t.pageStored && s.runsInWindow n then .refused .pageStoredInWindow else .next t
  | .fault f => .fault f
  | .refused r => .refused r

/-- Fetches, decodes and runs one instruction, with the PC past it (R24, R651). -/
def State.runInstruction (s : State) : Result :=
  match s.fetch with
  | .error r => .refused r
  | .ok (i, n) => s.continued n (exec i (s.setPc (s.pc + BitVec.ofNat 16 n)))

/-! ## The step loop (R651) -/

/-- The inputs of this step: the head of the stream, no request when the stream has ended. -/
def State.env (s : State) : Env := s.inputs.headD Env.quiet

/-- The state a step begins in: the inputs consumed, fresh free values, no store to PPAGE yet (log 9, log 27, log 43). -/
def State.begin (s : State) : State := ((s.setInputs s.inputs.tail).setTick (s.tick + 1)).setPageStored false

/-- A step of a running CPU: a recognised request is entered, else an instruction runs; the inhibit and the mark of an
RTI last one boundary (R651, R692, R542). -/
def State.runStep (s : State) (env : Env) : Result :=
  let s1 := s.setIDelay false
  match s.recognised env with
  | some r => .next ((s1.enterRequest r).setRtiFrame false)
  | none =>
    match env.forced with
    | some f => .next ((s1.setRtiFrame false).force f)
    | none => (s1.setRtiFrame false).runInstruction

/-- One step with the given inputs: reset first, then by the run state (R651). DESIGN CHOICE, safe: active background mode
keeps the marks of bytes that may be queued. The spec does not say whether its vector request (R620, R636) refills the
queue, and the list of R86 does not have it, so a byte stored to before it is still refused after it (log 13). -/
def State.stepWith (s : State) (env : Env) : Result :=
  match env.reset with
  | some kind => .next (s.resetSequence kind)
  | none =>
    match s.run with
    | .bdm => .next (if env.resume then s.setRun .running else s)
    | .waiting => .next (s.wake env)
    | .stopped => .next (s.wake env)
    | .running => s.runStep env

/-- Bytes stored at a local address for a loader: cells alone change. -/
def State.load (s : State) (a : Word) : List Byte → State
  | [] => s
  | v :: vs => State.load (s.setMem (s.mem.set (s.cfg.phys.physical (s.localKey a)) v)) (a + 1#16) vs

end Sys2Proof.Machine
end

