-- ==== Sys2Proof/Machine/Step.lean ====
section
/-!
DEFINITION. The step, and the placing of one instruction where the step fetches next.
-/

namespace Sys2Proof.Machine

/-- One step of the machine (60_exceptions.md R651). -/
def step (s : State) : Host.Outcome State Fault Refusal := s.begin.stepWith s.env

/-- The state with the instruction whose first `nbits` bits are `w`, numbered as spec/opcode_table.json numbers them,
stored at the PC; running, with no request pending and nothing of the instruction stored to while queued, so that the next
step runs it (log 33, log 34). -/
def State.withFetchWord (s : State) (nbits w : Nat) : State :=
  (((s.load s.pc ((tableBytes nbits w).take 8)).setRun .running).setInputs []).setStale []

end Sys2Proof.Machine
end

