-- ==== Sys2Proof/Safety.lean ====
section
/-!
DEFINITION. What claims are stated in: the invariant of a step, the frame of an instruction, and the arithmetic of the
spec in exact integers, written apart from the Boolean formulas the machine computes with.
-/

namespace Sys2Proof.Machine

/-! ## The invariant -/

/-- What every step keeps: memory in its canonical form, and the bits of CCRH that a version lacks at 0 (R26, R37). -/
def State.Inv (s : State) : Prop :=
  Mem.wf s.mem = true ∧ (s.cfg.version.hasUser = false → s.ccrh.u = false) ∧
    (s.cfg.version.isX = false → s.ccrh.ipl = 0#3)

/-! ## Frames -/

/-- The registers of the programmer's model other than PC and CCR. -/
def State.regs (s : State) : Byte × Byte × Word × Word × Word := (s.a, s.b, s.x, s.y, s.sp)

/-- What no ordinary instruction writes: the parameters, U and IPL, the temporaries, the run state, the inhibit, a WAV
in progress, the inputs and the model's own fields but the two that stores mark (`State.marked`). -/
def State.special (s : State) :
    Cfg × Ccrh × Tmp × Tmp × Tmp × RunState × Bool × Option WavSums × List Env × Nat × Bool :=
  (s.cfg, s.ccrh, s.tmp1, s.tmp2, s.tmp3, s.run, s.iDelay, s.wav, s.inputs, s.tick, s.rtiFrame)

/-- Every byte reads as before except at the locations stored to: the cells of local, paged and global memory, and
PPAGE, GPAGE, DIRECT and the vector base, which are locations too. -/
def State.bytesKept (s t : State) (stored : List Loc) : Prop := ∀ l : Loc, l ∉ stored → t.peek l = s.peek l

/-- What stores to the locations `stored` mark, and nothing else: of the eight bytes after the instruction those that lie at
one of them, and, where PPAGE of an expanded map is one, those in the window (R86, D7, R696; log 13), and that PPAGE was
stored to (log 43). -/
def State.marked (s t : State) (stored : List Loc) : Prop :=
  let paged := s.cfg.phys.expanded = true ∧ .ppage ∈ stored
  (∀ q : Word, q ∈ t.stale ↔
    q ∈ s.stale ∨ ((q - s.pc).toNat < 8 ∧ (s.locate q ∈ stored ∨ (paged ∧ inWindow q = true)))) ∧
  (t.pageStored = true ↔ s.pageStored = true ∨ paged)

/-- `s1` is `s` after an addressing mode has acted: at most the register the mode modifies has another value. -/
def State.modeOnly (s s1 : State) (target : Option AutoReg) : Prop :=
  match target with
  | none => s1 = s
  | some r => s1 = s.setAutoReg r (s1.autoReg r)

/-- The frame of an instruction that ends in `t`, its operand's addressing mode having led from `s` to `s1`: the mode
changed at most the register it modifies, the PC stays at the next instruction, nothing special changed, every byte but
the stored ones reads as before, and the stores, nothing else, mark what is queued. -/
def State.frame (s s1 t : State) (target : Option AutoReg) (stored : List Loc) : Prop :=
  s.modeOnly s1 target ∧ t.pc = s.pc ∧ t.special = s.special ∧ s.bytesKept t stored ∧ s.marked t stored

/-- The frame of an instruction without a memory operand that stores nothing. -/
def State.still (s t : State) : Prop := t.pc = s.pc ∧ t.special = s.special ∧ s.bytesKept t [] ∧ s.marked t []

/-- The register the addressing mode of an 8-bit operand modifies (R102). -/
def Src8.autoTarget : Src8 → Option AutoReg
  | .imm _ => none
  | .mem m => DirExtIdx.autoTarget m

/-- The register the addressing mode of an operand with no direct form modifies (R102). -/
def ExtIdx.autoTarget : ExtIdx → Option AutoReg
  | .ext _ => none
  | .idx xb => Indexed.autoTarget xb

/-- The locations of the two bytes of a word at a local address, as a store of the word finds them: the second after the
first byte is stored (R71, D3). -/
def State.wordLocs (s : State) (a : Word) (v : Word) : List Loc :=
  [s.locate a, (s.write8 a (hiByte v)).locate (a + 1#16)]

/-- The locations of the two bytes of a global word (R171). -/
def State.globalLocs (s : State) (a : Word) : List Loc :=
  [s.locAt (globalKey s.gpage a), s.locAt (globalKey (s.gnextPage a) (a + 1#16))]

/-- The byte a location holds after a store of `v`: the old one where the map lets nothing be written, seven bits in GPAGE
(R42, R88; log 39, log 42). -/
def State.kept (s : State) (l : Loc) (v : Byte) : Byte :=
  match l with
  | .cell k => if s.cfg.phys.writable k then v else s.peek (.cell k)
  | .void k => s.peek (.void k)
  | .device k => s.peek (.device k)
  | .ppage => v
  | .gpage => s.gpageByte (v.extractLsb' 0 7)
  | .direct => v
  | .vectorBase => v

/-- `t` holds the byte `v` where `s` stores to the address `a`. -/
def State.storedByte (s t : State) (a : Word) (v : Byte) : Prop := t.peek (s.locate a) = s.kept (s.locate a) v

/-- `t` holds the word `v` where `s` stores to the address `a`, the high byte first (R61, R71). -/
def State.storedWord (s t : State) (a : Word) (v : Word) : Prop :=
  s.storedByte t a (hiByte v) ∧ (s.write8 a (hiByte v)).storedByte t (a + 1#16) (loByte v)

/-! ## Exact arithmetic -/

/-- A signed number that `n` bits cannot hold. -/
def outOfRange (n : Nat) (v : Int) : Bool := decide (v < -(2 : Int) ^ (n - 1) ∨ (2 : Int) ^ (n - 1) ≤ v)

/-- The sum as a number (R15, R230, R238). -/
def exactSum {n : Nat} (p q : BitVec n) (c : Bool) : Nat := p.toNat + q.toNat + c.toNat

/-- The sum in `n` bits. -/
def addedValue {n : Nat} (p q : BitVec n) (c : Bool) : BitVec n := BitVec.ofNat n (exactSum p q c)

/-- N, Z, V and C of an addition: C a sum that does not fit unsigned, V one that does not fit signed. -/
def addedCcr {n : Nat} (f : Ccr) (p q : BitVec n) (c : Bool) : Ccr :=
  { f with
    n := (addedValue p q c).msb
    z := decide (addedValue p q c = 0)
    v := outOfRange n (p.toInt + q.toInt + c.toNat)
    c := decide (2 ^ n ≤ exactSum p q c) }

/-- The half carry of an 8-bit addition: the low digits do not fit in four bits (R30). -/
def addedHalf (p q : Byte) (c : Bool) : Bool := decide (16 ≤ p.toNat % 16 + q.toNat % 16 + c.toNat)

/-- The difference in `n` bits (R15, R250). -/
def subtractedValue {n : Nat} (p q : BitVec n) (c : Bool) : BitVec n :=
  BitVec.ofInt n ((p.toNat : Int) - q.toNat - c.toNat)

/-- N, Z, V and C of a subtraction: C a borrow, V a difference that does not fit signed. -/
def subtractedCcr {n : Nat} (f : Ccr) (p q : BitVec n) (c : Bool) : Ccr :=
  { f with
    n := (subtractedValue p q c).msb
    z := decide (subtractedValue p q c = 0)
    v := outOfRange n (p.toInt - q.toInt - c.toNat)
    c := decide (p.toNat < q.toNat + c.toNat) }

/-- Z of the extended forms: a zero result leaves it, any other clears it (R251). -/
def stickyZ (old : Ccr) (new : Ccr) : Ccr := { new with z := old.z && new.z }

/-- N and Z from a value, V clear (R15). -/
def loadedCcr {n : Nat} (f : Ccr) (v : BitVec n) : Ccr := { f with n := v.msb, z := decide (v = 0), v := false }

/-- The operations on one operand (R270, R358, R367, R410 to R450). -/
inductive Unary where
  | dec | inc | neg | com | asl | asr | lsr | rol | ror
  deriving DecidableEq, Repr

/-- The result of an operation on one operand, by exact arithmetic. -/
def Unary.value {n : Nat} (f : Ccr) (p : BitVec n) : Unary → BitVec n
  | .dec => BitVec.ofInt n (p.toInt - 1)
  | .inc => BitVec.ofInt n (p.toInt + 1)
  | .neg => BitVec.ofInt n (-p.toInt)
  | .com => BitVec.ofNat n (2 ^ n - 1 - p.toNat)
  | .asl => BitVec.ofNat n (2 * p.toNat)
  | .asr => BitVec.ofInt n (p.toInt / 2)
  | .lsr => BitVec.ofNat n (p.toNat / 2)
  | .rol => BitVec.ofNat n (2 * p.toNat + f.c.toNat)
  | .ror => BitVec.ofNat n (p.toNat / 2 + f.c.toNat * 2 ^ (n - 1))

/-- The C an operation on one operand leaves. -/
def Unary.carry {n : Nat} (f : Ccr) (p : BitVec n) : Unary → Bool
  | .dec => f.c
  | .inc => f.c
  | .neg => decide (p ≠ 0)
  | .com => true
  | .asl => decide (2 ^ n ≤ 2 * p.toNat)
  | .asr => decide (p.toNat % 2 = 1)
  | .lsr => decide (p.toNat % 2 = 1)
  | .rol => decide (2 ^ n ≤ 2 * p.toNat)
  | .ror => decide (p.toNat % 2 = 1)

/-- The V an operation on one operand leaves, given the N and C it leaves. -/
def Unary.overflow {n : Nat} (p : BitVec n) (newN newC : Bool) : Unary → Bool
  | .dec => outOfRange n (p.toInt - 1)
  | .inc => outOfRange n (p.toInt + 1)
  | .neg => outOfRange n (-p.toInt)
  | .com => false
  | .asl => newN ^^ newC
  | .asr => newN ^^ newC
  | .lsr => newN ^^ newC
  | .rol => newN ^^ newC
  | .ror => newN ^^ newC

/-- The CCR an operation on one operand leaves. -/
def Unary.flags {n : Nat} (f : Ccr) (p : BitVec n) (u : Unary) : Ccr :=
  let r := u.value f p
  { f with n := r.msb, z := decide (r = 0), v := u.overflow p r.msb (u.carry f p), c := u.carry f p }

/-! ## The tables of the CPU12X transfers and exchanges -/

/-- The byte entries of the table of R202: source code, destination code, what is read, what is written. -/
def highBytePairs : List (XReg × XReg × ByteSlot × ByteSlot) :=
  [(.a, .a, .a, .a), (.a, .b, .a, .b), (.a, .ccr, .a, .ccrh), (.a, .tmp, .a, (.high .tmp2)),
    (.a, .x, .a, (.high .x)), (.a, .y, .a, (.high .y)), (.a, .sp, .a, (.high .sp)), (.b, .a, .b, .a),
    (.b, .b, .b, .b), (.b, .ccr, .b, .ccr), (.b, .tmp, .b, (.low .tmp2)), (.b, .x, .b, (.low .x)),
    (.b, .y, .b, (.low .y)), (.b, .sp, .b, (.low .sp)), (.ccr, .a, .ccrh, .a), (.ccr, .b, .ccr, .b),
    (.tmp, .a, (.high .tmp3), .a), (.tmp, .b, (.low .tmp3), .b), (.d, .a, .b, .a), (.d, .b, .b, .b),
    (.x, .a, (.high .x), .a), (.x, .b, (.low .x), .b), (.y, .a, (.high .y), .a), (.y, .b, (.low .y), .b),
    (.sp, .a, (.high .sp), .a), (.sp, .b, (.low .sp), .b)]

/-- The word entries of the table of R202 that do not sign-extend. -/
def highWordPairs : List (XReg × XReg × WordSlot × WordSlot) :=
  [(.ccr, .ccr, .ccrw, .ccrw), (.ccr, .tmp, .ccrw, .tmp2), (.ccr, .d, .ccrw, .d), (.ccr, .x, .ccrw, .x),
    (.ccr, .y, .ccrw, .y), (.ccr, .sp, .ccrw, .sp), (.tmp, .ccr, .tmp3, .ccrw), (.tmp, .tmp, .tmp3, .tmp2),
    (.tmp, .d, .tmp1, .d), (.tmp, .x, .tmp3, .x), (.tmp, .y, .tmp3, .y), (.tmp, .sp, .tmp3, .sp),
    (.d, .ccr, .d, .ccrw), (.d, .tmp, .d, .tmp1), (.d, .d, .d, .d), (.d, .sp, .d, .sp), (.x, .ccr, .x, .ccrw),
    (.x, .tmp, .x, .tmp2), (.x, .d, .x, .d), (.x, .x, .x, .x), (.x, .y, .x, .y), (.x, .sp, .x, .sp),
    (.y, .ccr, .y, .ccrw), (.y, .tmp, .y, .tmp2), (.y, .d, .y, .d), (.y, .x, .y, .x), (.y, .y, .y, .y),
    (.y, .sp, .y, .sp), (.sp, .ccr, .sp, .ccrw), (.sp, .tmp, .sp, .tmp2), (.sp, .d, .sp, .d), (.sp, .x, .sp, .x),
    (.sp, .y, .sp, .y), (.sp, .sp, .sp, .sp)]

/-! ## The CCR bit by bit -/

/-- A bit of the CCR byte (R25). -/
def Ccr.bit (f : Ccr) (k : Nat) : Bool := f.toByte.getLsbD k

/-- The CCR after eight bits are offered to it: in user state S, X and I stay; X never rises (R28, R200). -/
def offeredCcr (user : Bool) (old : Ccr) (w : Nat → Bool) : Ccr :=
  { s := if user then old.s else w 7
    x := if user then old.x else old.x && w 6
    h := w 5
    i := if user then old.i else w 4
    n := w 3
    z := w 2
    v := w 1
    c := w 0 }

/-! ## The stack and the exceptions -/

/-- A cell that can be written lies at an address. -/
def State.ram (s : State) (a : Word) : Prop := ∃ key, s.locate a = .cell key ∧ s.cfg.phys.writable key = true

/-- The `n` bytes from `a` on are plain memory at a fixed place: cells that can be written, outside the program window of
an expanded map. -/
def State.plain (s : State) (a : Word) (n : Nat) : Prop :=
  ∀ k < n, s.ram (a + BitVec.ofNat 16 k) ∧
    (s.cfg.phys.expanded = true → inWindow (a + BitVec.ofNat 16 k) = false)

/-- The locations of the `n` bytes from `a` on. -/
def State.locsFrom (s : State) (a : Word) (n : Nat) : List Loc :=
  (List.range n).map fun k => s.locate (a + BitVec.ofNat 16 k)

/-- `t` holds at the address `top` the stack frame of `s` with the return address `rtn`: CCR on CPU12, CCRW on CPU12X, then
B:A, X, Y and the return address, upwards (R622). -/
def State.holdsFrame (s t : State) (top rtn : Word) : Prop :=
  let up : Word := if s.cfg.version.isX then 2#16 else 1#16
  (if s.cfg.version.isX then t.read16 top = s.ccrw else t.read8 top = s.ccr.toByte) ∧
    t.read16 (top + up) = joinBytes s.b s.a ∧ t.read16 (top + up + 2#16) = s.x ∧ t.read16 (top + up + 4#16) = s.y ∧
    t.read16 (top + up + 6#16) = rtn

/-- The level a request leaves in IPL: its own on CPU12X (R642, D28). -/
def entryIpl (isX : Bool) (old : BitVec 3) : EntryKind → BitVec 3
  | .software => old
  | .irq level => if isX then level else old
  | .xirq level => if isX then level else old
  | .nmi level => if isX then level else old

/-- The X a request leaves (R641). -/
def entryX (old : Bool) : EntryKind → Bool
  | .software => old
  | .irq _ => old
  | .xirq _ => true
  | .nmi _ => old

/-- `s` with the pending pair of a WAV counted and its three words on the stack (R478). -/
def State.withSumsStacked (s : State) (w : WavSums) : State :=
  ((((s.setB (s.b - 1#8)).push16 w.sow).push16 (w.sop.extractLsb' 0 16)).push16 (w.sop.extractLsb' 16 16)).setWav none

/-- What an entry leaves but for the stack: the PC at the vector's word, I set, X and IPL as given, U clear, running,
no inhibit, the queue refilled (R621, R640 to R643, R86). -/
def State.vectored (s t : State) (vec : Byte) (x : Bool) (ipl : BitVec 3) : Prop :=
  t.pc = s.read16 (joinBytes (if s.cfg.version.isX then s.vectorBase else 0xFF#8) vec) ∧
    (t.a, t.b, t.x, t.y) = (s.a, s.b, s.x, s.y) ∧ t.ccr = { s.ccr with i := true, x := x } ∧
    t.stale = [] ∧ t.special = (((s.setCcrh { u := s.ccrh.u && !s.cfg.version.hasUser, ipl := ipl }).setRun .running).setIDelay
      false).special

/-- An entry with a frame stacked: as above, SP down by the frame, and, where the frame lies in plain memory, the frame
there and every other byte as before. -/
def State.entered (s t : State) (vec : Byte) (rtn : Word) (x : Bool) (ipl : BitVec 3) : Prop :=
  let n := if s.cfg.version.isX then 10 else 9
  let top := s.sp - BitVec.ofNat 16 n
  s.vectored t vec x ipl ∧ t.sp = top ∧
    (s.plain top n → s.holdsFrame t top rtn ∧ s.bytesKept t (s.locsFrom top n))

end Sys2Proof.Machine
end

