-- ==== Sys2Proof/Certificates/Slice0/Obligations.lean ====
section
/-!
DEFINITION. The statements for the provers, section by section of spec/. A statement's docstring cites the rules it rests
on; where one rests on a choice of the model's it names the log entry. Every frame says, beside what is stored, what the
stores mark of the bytes that may be queued, a field of the model's own (log 13, log 43).
-/

section

open Sys2Proof Sys2Proof.Machine

/-! ## Decoding and encoding (30_encoding.md) -/

/-- R90 to R128. On every version, the decoder gives back every well-formed instruction, each operand at every value its
encoding admits, from the bytes the encoder writes, and leaves the bytes after them. -/
def Obligations.DecodeOfEncode : Prop :=
  ∀ (v : Version) (i : Instr) (rest : List Byte), i.wf v = true → decode v (encode i ++ rest) = .ok (i, rest)

/-- R90, R91. What the decoder gives is well-formed for the version and takes between one and eight of the bytes, from
their head; eight bytes always hold an instruction or a refused form. -/
def Obligations.DecodedIsWellFormed : Prop :=
  (∀ (v : Version) (bs : List Byte) (i : Instr) (rest : List Byte), decode v bs = .ok (i, rest) →
    i.wf v = true ∧ ∃ taken, bs = taken ++ rest ∧ 1 ≤ taken.length ∧ taken.length ≤ 8) ∧
  ∀ (v : Version) (bs : List Byte), 8 ≤ bs.length → decode v bs ≠ .error .truncated

/-- R101 to R107. Every postbyte, with its extension bytes, reaches the address the rules give, in integers reduced to
sixteen bits, and changes only the register an auto form names, by its adjustment; base 3 is the PC. -/
def Obligations.IndexedAddressing : Prop :=
  ∀ (s : State) (rr : BitVec 2) (rest : List Byte),
    let base : Word := if rr = 0 then s.x else if rr = 1 then s.y else if rr = 2 then s.sp else s.pc
    let reaches : List Byte → Word → State → Prop := fun bytes a s1 =>
      ∃ xb, takeIndexed (bytes ++ rest) = .ok (xb, rest) ∧ s.indexed xb = (a, s1)
    (∀ n : BitVec 5, reaches [rr ++ 0#1 ++ n] (BitVec.ofInt 16 (base.toNat + n.toInt)) s) ∧
    (rr ≠ 3 → ∀ (p : Bool) (n : BitVec 4),
      let delta : Int := if 0 ≤ n.toInt then n.toInt + 1 else n.toInt
      let new : Word := BitVec.ofInt 16 (base.toNat + delta)
      reaches [rr ++ 1#1 ++ BitVec.ofBool p ++ n] (if p then base else new)
        (if rr = 0 then s.setX new else if rr = 1 then s.setY new else s.setSp new)) ∧
    reaches [7#3 ++ rr ++ 4#3] (BitVec.ofNat 16 (base.toNat + s.a.toNat)) s ∧
    reaches [7#3 ++ rr ++ 5#3] (BitVec.ofNat 16 (base.toNat + s.b.toNat)) s ∧
    reaches [7#3 ++ rr ++ 6#3] (BitVec.ofNat 16 (base.toNat + s.d.toNat)) s ∧
    (∀ (top : BitVec 1) (ff : Byte),
      reaches [7#3 ++ rr ++ 0#2 ++ top, ff] (BitVec.ofInt 16 (base.toNat + (top ++ ff : BitVec 9).toInt)) s) ∧
    (∀ ee ff : Byte,
      reaches [7#3 ++ rr ++ 2#3, ee, ff] (BitVec.ofNat 16 (base.toNat + 256 * ee.toNat + ff.toNat)) s) ∧
    (∀ ee ff : Byte, let ptr : Word := BitVec.ofNat 16 (base.toNat + 256 * ee.toNat + ff.toNat)
      reaches [7#3 ++ rr ++ 3#3, ee, ff] (joinBytes (s.read8 ptr) (s.read8 (ptr + 1))) s) ∧
    let ptr : Word := BitVec.ofNat 16 (base.toNat + s.d.toNat)
    reaches [7#3 ++ rr ++ 7#3] (joinBytes (s.read8 ptr) (s.read8 (ptr + 1))) s

/-- R97 to R99, R66, R61, R62, R74. Direct addresses lie in the page DIRECT selects on CPU12X, in page $00 on CPU12;
extended ones are in the instruction. An immediate is the operand itself; a memory operand is the byte at the address,
or that byte over the one at the next address, which wraps; no mode but an auto form changes anything. -/
def Obligations.OperandValues : Prop :=
  ∀ s : State,
    (∀ dd, s.ea (.dir dd) = (BitVec.ofNat 16 ((if s.cfg.version.isX then s.direct.toNat else 0) * 256 + dd.toNat), s)) ∧
    (∀ a, s.ea (.ext a) = (a, s) ∧ s.eaExtIdx (.ext a) = (a, s)) ∧
    (∀ xb, s.ea (.idx xb) = s.indexed xb ∧ s.eaExtIdx (.idx xb) = s.indexed xb) ∧
    (∀ v, s.src8 (.imm v) = (v, s)) ∧ (∀ v, s.src16 (.imm v) = (v, s)) ∧
    (∀ m, s.src8 (.mem m) = (s.read8 (s.ea m).1, (s.ea m).2) ∧
      s.modeOnly (s.ea m).2 (DirExtIdx.autoTarget m)) ∧
    (∀ m, ((s.src16 (.mem m)).1.toNat =
        256 * (s.read8 (s.ea m).1).toNat + (s.read8 (BitVec.ofNat 16 ((s.ea m).1.toNat + 1))).toNat) ∧
      (s.src16 (.mem m)).2 = (s.ea m).2)

/-- R126, R125. The reserved loop postbytes, and only they, are refused, on every version and whatever byte follows; bit
3 is not looked at. -/
def Obligations.ReservedLoopPostbytes : Prop :=
  ∀ (v : Version) (lb rr : Byte) (rest : List Byte),
    (decode v (0x04 :: lb :: rr :: rest) = .error .loopPostbyte ↔
      (0xC0 ≤ lb.toNat ∨ lb.toNat % 8 = 2 ∨ lb.toNat % 8 = 3)) ∧
    decode v (0x04 :: (lb ^^^ 8) :: rr :: rest) = decode v (0x04 :: lb :: rr :: rest)

/-- R128, R131. The unassigned positions of page 2 run as TRAP, 202 of them on CPU12, 29 on CPU12XV0 and 28 on CPU12XV1
and XV2, and where the fuzzy instructions are removed their five opcodes too; `tn` has no effect; no other position
decodes to TRAP. The return address of a removed fuzzy opcode, the address after its bytes, is decision D14, the model's
choice (log 22). -/
def Obligations.UnassignedOpcodesTrap : Prop :=
  let positions : Version → List Nat := fun v =>
    if v.isX then (List.range 256).filter fun n =>
      (0x30 ≤ n ∧ n ≤ 0x34) ∨ (0x49 ≤ n ∧ n ≤ 0x4F) ∨ (0xCC ≤ n ∧ n ≤ 0xCF) ∨ (n = 0xA7 ∧ v = .cpu12xv0) ∨
        n ∈ [0x59, 0x81, 0x86, 0x91, 0xA1, 0xB1, 0xB7, 0xC1, 0xC6, 0xD1, 0xE1, 0xF1]
    else (List.range 256).filter fun n => (0x30 ≤ n ∧ n ≤ 0x39) ∨ 0x40 ≤ n
  let traps : Version → List Byte → List Byte → Prop := fun v opcode rest =>
    ∃ i, decode v (opcode ++ rest) = .ok (i, rest) ∧ ∀ (s : State) (tn : Byte), s.cfg.version = v →
      exec i s = exec (.trap tn) s
  ((positions .cpu12v0).length, (positions .cpu12v1).length, (positions .cpu12xv0).length, (positions .cpu12xv1).length,
    (positions .cpu12xv2).length) = (202, 202, 29, 28, 28) ∧
  ∀ (v : Version) (rest : List Byte),
    (∀ n ∈ positions v, traps v [0x18, BitVec.ofNat 8 n] rest) ∧
    (v.hasFuzzy = false → ∀ opcode ∈ [[0x01#8], [0x3C], [0x18, 0x3A], [0x18, 0x3B], [0x18, 0x3C]], traps v opcode rest) ∧
    ∀ bs tn r, decode v bs = .ok (.trap tn, r) → tn.toNat ∈ positions v ∧ bs = 0x18 :: tn :: r

/-- R112, R121, R219. The forms an instruction does not accept are refused by name: the indirect forms of LEA and of the
bit instructions, all but the one-byte forms of TBL, of ETBL and of either operand of CPU12's moves, and on CPU12V1 bit
3 of the transfer postbyte. -/
def Obligations.ReservedFormsRefused : Prop :=
  ∀ (v : Version) (xb : Indexed) (rest : List Byte),
    (xb.isDirect = false → ∀ op ∈ [[0x19#8], [0x1A], [0x1B], [0x0C], [0x0D], [0x0E], [0x0F]],
      decode v (op ++ xb.bytes ++ rest) = .error .indexedForm) ∧
    (xb.isDirect = false → v.isX = true → decode v ([0x18, 0x37] ++ xb.bytes ++ rest) = .error .indexedForm) ∧
    (xb.isShort = false → ∀ op ∈ [[0x18#8, 0x3D], [0x18, 0x3F]],
      decode v (op ++ xb.bytes ++ rest) = .error .indexedForm) ∧
    (xb.isShort = false → v.isX = false →
      ∀ op ∈ [[0x18#8, 0x00], [0x18, 0x01], [0x18, 0x02], [0x18, 0x05], [0x18, 0x08], [0x18, 0x09], [0x18, 0x0A],
        [0x18, 0x0D]],
      decode v (op ++ xb.bytes ++ rest) = .error .indexedForm) ∧
    (xb.isShort = false → v.isX = false → ∀ src : Indexed, src.isShort = true → ∀ op ∈ [[0x18#8, 0x02], [0x18, 0x0A]],
      decode v (op ++ src.bytes ++ xb.bytes ++ rest) = .error .indexedForm) ∧
    ∀ eb : Byte, eb.getLsbD 3 = true → decode .cpu12v1 ([0xB7, eb] ++ rest) = .error .transferBit3

/-- Sample words of every family of the opcode table, written out bit by bit from the encoding line of the instruction's
rule, decode to the instruction they stand for. -/
def Obligations.SampleWordsDecode : Prop :=
  ∀ p ∈ [([0b10100110#8, 0b00000000], Instr.ldaa (.mem (.idx (.off5 .x 0)))), -- A6 00, R151, R101
      ([0b01101011, 0b01011000], .stab (.idx (.off5 .y (-8)))), -- 6B 58, R162, R101
      ([0b10110111, 0b01000101], .tfr false .d .x), -- B7 45, R191
      ([0b00011000, 0b00001011, 0b01010101, 0b00010010, 0b00110100], .movb (.immExt 0x55 0x1234)), -- 18 0B ii hh ll, R215
      ([0b10001011, 0b00000001], .adda (.imm 0x01)), -- 8B ii, R236
      ([0b10001100, 0b00010010, 0b00110100], .cpd (.imm 0x1234)), -- 8C jj kk, R304
      ([0b00011000, 0b00010100], .edivs), -- 18 14, R384
      ([0b00011101, 0b00010000, 0b00000000, 0b00001111], .bclr (.ext 0x1000) 0x0F), -- 1D hh ll mm, R401
      ([0b00011000, 0b00011000, 0b10110001], .maxa (.auto .sp true 1)), -- 18 18 xb, R481, R102
      ([0b00100000, 0b11111110], .bra 0xFE), -- 20 FE, R501
      ([0b00000100, 0b00110001, 0b11111100], .dbne .b (-4)), -- 04 lb rr, R524, R125
      ([0b00000101, 0b11111111], .jmp (.idx (.indD .pc))), -- 05 FF, R531, R107
      ([0b01001010, 0b10010000, 0b00000000, 0b00000111], .call (.ext 0x9000 0x07)), -- 4A hh ll pg, R536
      ([0b00011000, 0b00111001], .pshcw), -- 18 39, R564
      ([0b00011000, 0b00111110], .stop)], -- 18 3E, R599
    decode .cpu12xv0 p.1 = .ok (p.2, [])

/-! ## Memory (20_memory.md) -/

/-- R8, R61, R62, R64, R65, R67, R68, R75, R88. A byte stored in plain memory reads back at every address, local, paged
or global, that the map puts at its place, and every other address keeps its byte; a word has its high byte at the
address and its low byte at the next, which wraps, reads back, and leaves every other place. The window of an expanded
map shows what the map puts behind the page PPAGE selects and the offset; every other address ignores PPAGE. The first
region that holds an access takes it, by blocks, to a physical address; what is not plain memory there takes no byte.
With no region in the map every local address, page of the window and global address has a place of its own (D8, D10).
The form of the map, and that read-only memory and devices take no byte, are the model's choice (log 2, log 29, log 37,
log 42). -/
def Obligations.MemoryHoldsWhatIsStored : Prop :=
  (∀ (s : State) (a : Word) (v : Byte), s.plain a 1 →
    let t := s.write8 a v
    (∀ b, t.read8 b = if s.locate b = s.locate a then v else s.read8 b) ∧
    ∀ p b, t.gread8 p b = if s.locAt (globalKey p b) = s.locate a then v else s.gread8 p b) ∧
  (∀ (s : State) (a v : Word), s.plain a 2 →
    let next : Word := BitVec.ofNat 16 (a.toNat + 1)
    let t := s.write16 a v
    t.read16 a = v ∧ (t.read8 a).toNat = v.toNat / 256 ∧ (t.read8 next).toNat = v.toNat % 256 ∧
      ∀ b, s.locate b ≠ s.locate a → s.locate b ≠ s.locate next → t.read8 b = s.read8 b) ∧
  (∀ (s : State) (p : BitVec 7) (a : Word) (v : Byte) (k : Nat), s.locAt (globalKey p a) = .cell k →
    s.cfg.phys.writable k = true →
    let t := s.gwrite8 p a v
    (∀ b, t.read8 b = if s.locate b = .cell k then v else s.read8 b) ∧
    ∀ q b, t.gread8 q b = if s.locAt (globalKey q b) = .cell k then v else s.gread8 q b) ∧
  (∀ (s : State) (page : Byte) (a : Word), (s.setPpage page).locate a =
    if s.cfg.phys.expanded = true ∧ inWindow a = true then
      s.locAt (windowBase + page.toNat * 2 ^ 14 + (a.extractLsb' 0 14).toNat)
    else s.locAt a.toNat) ∧
  (∀ (p : Phys) (r : Region) (rest : List Region) (k : Nat), p.regions = r :: rest →
    p.physical k = if 16 * r.first ≤ k ∧ k < 16 * (r.last + 1) then k - 16 * r.first + 16 * r.target
      else ({ p with regions := rest } : Phys).physical k) ∧
  (∀ (s : State) (key : Nat) (v : Byte),
    let p := s.cfg.phys
    let k := p.physical key
    some k ≠ p.ppageAt → (s.cfg.version.isX = true → some k ∉ [p.gpageAt, p.directAt, p.vectorBaseAt]) →
    p.areaAt k ≠ none →
      s.locAt key ∈ [.void k, .device k, .cell k] ∧ s.bytesKept (s.store (s.locAt key) v) []) ∧
  ∀ (s t : State), s.cfg = t.cfg → s.cfg.phys.regions = [] → ∀ (a b : Word) (p q : BitVec 7),
    (s.locate a = t.locate b ↔ a = b ∧ (s.cfg.phys.expanded = true → inWindow a = true → s.ppage = t.ppage)) ∧
    (s.locAt (globalKey p a) = t.locAt (globalKey q b) ↔ p = q ∧ a = b) ∧ s.locate b ≠ t.locAt (globalKey p a)

/-! ## The step (60_exceptions.md section 2) -/

/-- R651, R91, R24, R692, R696. With no reset, request or forced instruction, a running CPU decodes the bytes at the PC,
from up to eight of them, and the step is what the instruction does, the PC past its bytes, the inhibit over, the
model's counter one on; unless a byte of it was stored to while queued (R86), or it has stored to PPAGE with a byte of
its own in the window of an expanded map, which is refused (U20; log 43). That both are refused is the model's choice
for what the spec says to refuse (D7; log 13, log 43). -/
def Obligations.StepRunsDecodedInstruction : Prop :=
  ∀ (s : State) (i : Instr) (rest : List Byte),
    s.env.reset = none → s.run = .running → s.begin.recognised s.env = none → s.env.forced = none →
    decode s.cfg.version ((List.range 8).map fun k => s.begin.read8 (s.pc + BitVec.ofNat 16 k)) = .ok (i, rest) →
    (∀ k < 8 - rest.length, s.pc + BitVec.ofNat 16 k ∉ s.stale) →
    ∃ t, exec i { s with
      pc := s.pc + BitVec.ofNat 16 (8 - rest.length), inputs := s.inputs.tail, tick := s.tick + 1, iDelay := false,
      rtiFrame := false, pageStored := false } = .next t ∧
    let paged := t.pageStored = true ∧ s.cfg.phys.expanded = true ∧
      ∃ k < 8 - rest.length, inWindow (s.pc + BitVec.ofNat 16 k) = true
    (¬ paged → step s = .next t) ∧ (paged → step s = .refused .pageStoredInWindow)

/-- R549. An instruction the debug module forces runs in place of the next one, which the stacked address or the PC
still names: SWI enters through its vector, BGND acts as BGND. Being resumed from active background mode changes the run
state alone. These inputs, and that a SWI forced inside a WAV stacks its sums as an interrupt does, are the model's
choice (log 32, log 19). -/
def Obligations.ForcedInstructions : Prop :=
  ∀ s : State, s.env.reset = none →
    (s.run = .running → s.begin.recognised s.env = none →
      let s0 := (s.begin.setIDelay false).setRtiFrame false
      (s.env.forced = some .swi → ∃ t, step s = .next t ∧
        (s.wav = none → s0.entered t 0xF6 s.pc s.ccr.x s.ccrh.ipl) ∧
        ∀ w, s.wav = some w → (s0.withSumsStacked w).entered t 0xF6 s.pc s.ccr.x s.ccrh.ipl) ∧
      (s.env.forced = some .bgnd → step s = exec .bgnd s0)) ∧
    (s.run = .bdm → step s = .next (if s.env.resume then s.begin.setRun .running else s.begin))

/-- R648, R112, R126, R205, R86, R696. Every instruction, in every state, on every version, answers a next state and
changes neither the parameters, the inputs nor the model's counter. A step never faults. It is refused only where the
spec says to refuse: the bytes at the PC are of a form the decoder refuses, or one of the instruction's was stored to
while it may have been queued, or the instruction has stored to PPAGE from inside the window of an expanded map (log 13,
log 43). The refusal of a form is what the model deduces from the spec's word to refuse it (log 14). -/
def Obligations.StopsOnlyWhereRefused : Prop :=
  (∀ (i : Instr) (s : State), ∃ t, exec i s = .next t ∧ t.cfg = s.cfg ∧ t.inputs = s.inputs ∧ t.tick = s.tick) ∧
  ∀ (s : State) (r : Refusal), step s = .refused r →
    let bytes := (List.range 8).map fun k => s.begin.read8 (s.pc + BitVec.ofNat 16 k)
    s.env.reset = none ∧ s.run = .running ∧ s.begin.recognised s.env = none ∧
      ((r = .reservedIndexedForm ∧ decode s.cfg.version bytes = .error .indexedForm) ∨
       (r = .reservedLoopPostbyte ∧ decode s.cfg.version bytes = .error .loopPostbyte) ∨
       (r = .reservedTransferBit3 ∧ s.cfg.version = .cpu12v1 ∧ decode s.cfg.version bytes = .error .transferBit3) ∨
       ∃ i rest, decode s.cfg.version bytes = .ok (i, rest) ∧
        ((r = .storedIntoQueue ∧ ∃ k < 8 - rest.length, s.pc + BitVec.ofNat 16 k ∈ s.stale) ∨
         (r = .pageStoredInWindow ∧ s.cfg.phys.expanded = true ∧
          (∃ k < 8 - rest.length, inWindow (s.pc + BitVec.ofNat 16 k) = true) ∧
          ∃ t, exec i { s with
            pc := s.pc + BitVec.ofNat 16 (8 - rest.length), inputs := s.inputs.tail, tick := s.tick + 1, iDelay := false,
            rtiFrame := false, pageStored := false } = .next t ∧ t.pageStored = true)))

/-- R26, R36, R37, R60. Every step keeps the invariant: memory in its canonical form, U clear where the version has no
user state and IPL 0 on CPU12; and no step changes the parameters. -/
def Obligations.StepKeepsInvariant : Prop :=
  ∀ s t : State, s.Inv → step s = .next t → t.Inv ∧ t.cfg = s.cfg

/-- R680. The invariant holds right after reset. -/
def Obligations.ResetMeetsInvariant : Prop := State.reset.Inv

/-- R28, R29, R200, R641. X falls when zero is written and never rises by an instruction: in no state does one set it,
and a step sets it only by a reset or by entering an XIRQ. Reset leaves it set; with it set XIRQ is not recognised; TAP,
TFR B,CCR, EXG A,CCR, PULC, PULCW, ORCC, ANDCC and RTI leave the old X anded with the one written. -/
def Obligations.XirqMaskRisesOnlyByXirqOrReset : Prop :=
  State.reset.ccr.x = true ∧
  (∀ (i : Instr) (s t : State), exec i s = .next t → s.ccr.x = false → t.ccr.x = false) ∧
  (∀ s t : State, step s = .next t → s.ccr.x = false → t.ccr.x = true →
    s.env.reset ≠ none ∨ ∃ vec level, s.begin.recognised s.env = some { vec := vec, kind := .xirq level }) ∧
  (∀ (s : State) (env : Env) (vec : Byte) (level : BitVec 3), s.ccr.x = true →
    s.recognised env ≠ some { vec := vec, kind := .xirq level }) ∧
  ∀ (s t : State), s.userState = false →
    (∀ p ∈ [(Instr.tap, s.a), (.tfr false .b .ccr, s.b), (.exg false .a .ccr, s.a), (.pulc, s.read8 s.sp)],
      exec p.1 s = .next t → t.ccr.x = (s.ccr.x && p.2.getLsbD 6)) ∧
    (exec .pulcw s = .next t → t.ccr.x = (s.ccr.x && (s.read8 (s.sp + 1)).getLsbD 6)) ∧
    (∀ mask, exec (.orcc mask) s = .next t → t.ccr.x = s.ccr.x) ∧
    (∀ mask, exec (.andcc mask) s = .next t → t.ccr.x = (s.ccr.x && mask.getLsbD 6)) ∧
    (exec .rti s = .next t →
      t.ccr.x = (s.ccr.x && (s.read8 (if s.cfg.version.isX then s.sp + 1 else s.sp)).getLsbD 6))

/-- R37, R660 to R662. In user state no instruction changes S, X, I, U or IPL, but those that enter an exception, which
clear U and set I; and none but BGND changes the run state. -/
def Obligations.UserStateKeepsControlBits : Prop :=
  ∀ (i : Instr) (s t : State), s.userState = true → exec i s = .next t →
    let enters := i ∈ [.swi, .sys, .mem, .rev, .revw, .wav, .wavr] ∨ ∃ tn, i = .trap tn
    (¬ enters → (t.ccr.s, t.ccr.x, t.ccr.i) = (s.ccr.s, s.ccr.x, s.ccr.i) ∧ t.ccrh = s.ccrh ∧
      (t.run = s.run ∨ i = .bgnd)) ∧
    (enters → (t.ccr.s, t.ccr.x, t.ccr.i) = (s.ccr.s, s.ccr.x, true) ∧ t.ccrh = { s.ccrh with u := false } ∧
      t.run = .running)

/-- R692, R47. The inhibit of one instruction: after any instruction run at a boundary, where no inhibit is left over,
it holds exactly if the instruction has cleared I, RTI apart; and while it holds no I-maskable request is recognised.
The sources say so of ANDCC, CLI and TAP; that every other instruction that clears I inhibits too is decision D26, the
model's choice (log 25). -/
def Obligations.InhibitFollowsClearedMask : Prop :=
  (∀ (i : Instr) (s t : State), s.iDelay = false → exec i s = .next t →
    t.iDelay = (s.ccr.i && !t.ccr.i && decide (i ≠ .rti))) ∧
  ∀ (s : State) (env : Env) (vec : Byte) (level : BitVec 3), s.iDelay = true →
    s.recognised env ≠ some { vec := vec, kind := .irq level }

/-! ## Loads and stores (40_load_store_transfer_move.md sections 1 to 4) -/

/-- R150 to R159, R74, R109. LDAA, LDAB, LDD, LDX, LDY, LDS: the register takes the operand, N and Z come from it, V is
cleared; nothing else changes but the register an auto-modify mode moves. Where that register is the one loaded, the
spec leaves open which of the two values it ends with (U3): the statement allows both. LEAX, LEAY, LEAS: the register
takes the effective address, last, over what the mode did to it; no flag and no byte changes. -/
def Obligations.LoadsTakeTheOperand : Prop :=
  (∀ (s : State) (op : Src8), ∀ p ∈ [(Instr.ldaa op, Acc.a), (.ldab op, .b)],
    let v := (s.src8 op).1
    let s1 := (s.src8 op).2
    ∃ t, exec p.1 s = .next t ∧ t.regs = (s1.setAcc p.2 v).regs ∧ t.ccr = loadedCcr s.ccr v ∧
      s.frame s1 t (Src8.autoTarget op) []) ∧
  (∀ (s : State) (op : Src16),
    let v := (s.src16 op).1
    let s1 := (s.src16 op).2
    (∃ t, exec (.ldd op) s = .next t ∧ t.regs = (s1.setD v).regs ∧ t.ccr = loadedCcr s.ccr v ∧
      s.frame s1 t (Src16.autoTarget op) []) ∧
    ∀ p ∈ [(Instr.ldx op, AutoReg.x), (.ldy op, .y), (.lds op, .sp)],
      ∃ t, exec p.1 s = .next t ∧
        (t.regs = (s1.setAutoReg p.2 v).regs ∨ (Src16.autoTarget op = some p.2 ∧ t.regs = s1.regs)) ∧
        t.ccr = loadedCcr s.ccr v ∧ s.frame s1 t (Src16.autoTarget op) []) ∧
  ∀ (s : State) (op : Indexed), ∀ p ∈ [(Instr.leax op, AutoReg.x), (.leay op, .y), (.leas op, .sp)],
    let s1 := (s.indexed op).2
    ∃ t, exec p.1 s = .next t ∧ t.regs = (s1.setAutoReg p.2 (s.indexed op).1).regs ∧ t.ccr = s.ccr ∧
      s.frame s1 t (Indexed.autoTarget op) []

/-- R160 to R166. STAA, STAB, STD, STX, STY, STS: the register goes to the effective address, the high byte of a word
first; N and Z come from it, V is cleared, and no other byte changes. Where the mode moves the register stored, the spec
leaves open whether the old or the new value is stored (U3): the statement allows both. -/
def Obligations.StoresWriteTheRegister : Prop :=
  ∀ (s : State) (op : DirExtIdx),
    let a := (s.ea op).1
    let s1 := (s.ea op).2
    (∀ p ∈ [(Instr.staa op, s.a), (.stab op, s.b)],
      ∃ t, exec p.1 s = .next t ∧ t.regs = s1.regs ∧ t.ccr = loadedCcr s.ccr p.2 ∧ s1.storedByte t a p.2 ∧
        s.frame s1 t (DirExtIdx.autoTarget op) [s1.locate a]) ∧
    (∃ t, exec (.std op) s = .next t ∧ t.regs = s1.regs ∧ t.ccr = loadedCcr s.ccr s.d ∧ s1.storedWord t a s.d ∧
      s.frame s1 t (DirExtIdx.autoTarget op) (s1.wordLocs a s.d)) ∧
    ∀ p ∈ [(Instr.stx op, AutoReg.x), (.sty op, .y), (.sts op, .sp)],
      ∃ v, (v = s1.autoReg p.2 ∨ (DirExtIdx.autoTarget op = some p.2 ∧ v = s.autoReg p.2)) ∧
        ∃ t, exec p.1 s = .next t ∧ t.regs = s1.regs ∧ t.ccr = loadedCcr s.ccr v ∧ s1.storedWord t a v ∧
          s.frame s1 t (DirExtIdx.autoTarget op) (s1.wordLocs a v)

/-- R170 to R184. The global loads and stores: as their twins, the operand read from, or the register stored in, what
the map puts behind the global address of GPAGE and the effective address; no other place changes. The model's choices
in it: the pointer of an indirect form is read from the 64 KB space (D11; log 29); a word at offset $FFFF, which the
spec says to refuse (U14), is answered with its second byte in this page or the next (log 11); whichever value the
register the mode moves gives or takes (U3; log 10). -/
def Obligations.GlobalLoadsAndStores : Prop :=
  (∀ (s : State) (op : DirExtIdx),
    let a := (s.ea op).1
    let s1 := (s.ea op).2
    let v := joinBytes (s.gread8 s.gpage a) (s.gread8 (s.gnextPage a) (a + 1#16))
    (∀ p ∈ [(Instr.gldaa op, Acc.a), (.gldab op, .b)],
      ∃ t, exec p.1 s = .next t ∧ t.regs = (s1.setAcc p.2 (s.gread8 s.gpage a)).regs ∧
        t.ccr = loadedCcr s.ccr (s.gread8 s.gpage a) ∧ s.frame s1 t (DirExtIdx.autoTarget op) []) ∧
    (∃ t, exec (.gldd op) s = .next t ∧ t.regs = (s1.setD v).regs ∧ t.ccr = loadedCcr s.ccr v ∧
      s.frame s1 t (DirExtIdx.autoTarget op) []) ∧
    ∀ p ∈ [(Instr.gldx op, AutoReg.x), (.gldy op, .y), (.glds op, .sp)],
      ∃ t, exec p.1 s = .next t ∧
        (t.regs = (s1.setAutoReg p.2 v).regs ∨ (DirExtIdx.autoTarget op = some p.2 ∧ t.regs = s1.regs)) ∧
        t.ccr = loadedCcr s.ccr v ∧ s.frame s1 t (DirExtIdx.autoTarget op) []) ∧
  ∀ (s : State) (op : DirExtIdx),
    let a := (s.ea op).1
    let s1 := (s.ea op).2
    let hi := s.locAt (globalKey s.gpage a)
    let lo := s.locAt (globalKey (s.gnextPage a) (a + 1#16))
    (∀ p ∈ [(Instr.gstaa op, s.a), (.gstab op, s.b)],
      ∃ t, exec p.1 s = .next t ∧ t.regs = s1.regs ∧ t.ccr = loadedCcr s.ccr p.2 ∧ t.peek hi = s.kept hi p.2 ∧
        s.frame s1 t (DirExtIdx.autoTarget op) [hi]) ∧
    (∃ t, exec (.gstd op) s = .next t ∧ t.regs = s1.regs ∧ t.ccr = loadedCcr s.ccr s.d ∧
      t.peek hi = s.kept hi s.a ∧ t.peek lo = s.kept lo s.b ∧ s.frame s1 t (DirExtIdx.autoTarget op) [hi, lo]) ∧
    ∀ p ∈ [(Instr.gstx op, AutoReg.x), (.gsty op, .y), (.gsts op, .sp)],
      ∃ v, (v = s1.autoReg p.2 ∨ (DirExtIdx.autoTarget op = some p.2 ∧ v = s.autoReg p.2)) ∧
        ∃ t, exec p.1 s = .next t ∧ t.regs = s1.regs ∧ t.ccr = loadedCcr s.ccr v ∧
          t.peek hi = s.kept hi (hiByte v) ∧ t.peek lo = s.kept lo (loByte v) ∧
          s.frame s1 t (DirExtIdx.autoTarget op) [hi, lo]

/-! ## Addition, subtraction, compare (41_add_sub_bcd_incdec.md; 42_compare_logic_clr_com_neg.md section 1) -/

/-- R230 to R237, R30. ABA, ADDA, ADDB, ADCA, ADCB: the sum, with the old C for ADC, in eight bits; H, N, Z, V and C by
exact arithmetic. -/
def Obligations.ByteAdditions : Prop :=
  (∀ s : State, ∃ t, exec .aba s = .next t ∧ t.regs = (s.setA (addedValue s.a s.b false)).regs ∧
    t.ccr = { addedCcr s.ccr s.a s.b false with h := addedHalf s.a s.b false } ∧ s.still t) ∧
  ∀ (s : State) (op : Src8), ∀ p ∈ [(Instr.adda op, Acc.a, false), (.addb op, .b, false), (.adca op, .a, s.ccr.c),
      (.adcb op, .b, s.ccr.c)],
    let m := (s.src8 op).1
    let s1 := (s.src8 op).2
    let r := s.acc p.2.1
    ∃ t, exec p.1 s = .next t ∧ t.regs = (s1.setAcc p.2.1 (addedValue r m p.2.2)).regs ∧
      t.ccr = { addedCcr s.ccr r m p.2.2 with h := addedHalf r m p.2.2 } ∧
      s.frame s1 t (Src8.autoTarget op) []

/-- R238 to R244, R251. ADDD, ADDX, ADDY: the sum in sixteen bits, N, Z, V and C by exact arithmetic, H untouched. ADED,
ADEX, ADEY: with the old C, and Z only cleared, never set. The register is the one the addressing mode leaves (log 20).
-/
def Obligations.WordAdditions : Prop :=
  ∀ (s : State) (op : Src16),
    let m := (s.src16 op).1
    let s1 := (s.src16 op).2
    (∀ p ∈ [(Instr.addd op, Wide.d), (.addx op, .x), (.addy op, .y)],
      ∃ t, exec p.1 s = .next t ∧ t.regs = (s1.setWide p.2 (addedValue (s1.wide p.2) m false)).regs ∧
        t.ccr = addedCcr s.ccr (s1.wide p.2) m false ∧ s.frame s1 t (Src16.autoTarget op) []) ∧
    ∀ p ∈ [(Instr.aded op, Wide.d), (.adex op, .x), (.adey op, .y)],
      ∃ t, exec p.1 s = .next t ∧ t.regs = (s1.setWide p.2 (addedValue (s1.wide p.2) m s.ccr.c)).regs ∧
        t.ccr = stickyZ s.ccr (addedCcr s.ccr (s1.wide p.2) m s.ccr.c) ∧ s.frame s1 t (Src16.autoTarget op) []

/-- R250, R252 to R256, R300 to R303. SBA, SUBA, SUBB, SBCA, SBCB: the difference, with the old C for SBC, in eight
bits; N, Z, V and C by exact arithmetic. CBA, CMPA, CMPB: the same flags, no register written. -/
def Obligations.ByteSubtractionsAndCompares : Prop :=
  (∀ s : State,
    (∃ t, exec .sba s = .next t ∧ t.regs = (s.setA (subtractedValue s.a s.b false)).regs ∧
      t.ccr = subtractedCcr s.ccr s.a s.b false ∧ s.still t) ∧
    ∃ t, exec .cba s = .next t ∧ t.regs = s.regs ∧ t.ccr = subtractedCcr s.ccr s.a s.b false ∧ s.still t) ∧
  ∀ (s : State) (op : Src8),
    let m := (s.src8 op).1
    let s1 := (s.src8 op).2
    (∀ p ∈ [(Instr.suba op, Acc.a, false), (.subb op, .b, false), (.sbca op, .a, s.ccr.c), (.sbcb op, .b, s.ccr.c)],
      ∃ t, exec p.1 s = .next t ∧ t.regs = (s1.setAcc p.2.1 (subtractedValue (s.acc p.2.1) m p.2.2)).regs ∧
        t.ccr = subtractedCcr s.ccr (s.acc p.2.1) m p.2.2 ∧ s.frame s1 t (Src8.autoTarget op) []) ∧
    ∀ p ∈ [(Instr.cmpa op, Acc.a), (.cmpb op, .b)],
      ∃ t, exec p.1 s = .next t ∧ t.regs = s1.regs ∧ t.ccr = subtractedCcr s.ccr (s.acc p.2) m false ∧
        s.frame s1 t (Src8.autoTarget op) []

/-- R250, R251, R257 to R262, R304 to R311. SUBD, SUBX, SUBY and CPD, CPX, CPY, CPS: difference and flags by exact
arithmetic in sixteen bits. SBED, SBEX, SBEY and CPED, CPEX, CPEY, CPES: with the old C, Z only cleared, never set. The
register is the one the addressing mode leaves (log 20). -/
def Obligations.WordSubtractionsAndCompares : Prop :=
  ∀ (s : State) (op : Src16),
    let m := (s.src16 op).1
    let s1 := (s.src16 op).2
    (∀ p ∈ [(Instr.subd op, Wide.d), (.subx op, .x), (.suby op, .y)],
      ∃ t, exec p.1 s = .next t ∧ t.regs = (s1.setWide p.2 (subtractedValue (s1.wide p.2) m false)).regs ∧
        t.ccr = subtractedCcr s.ccr (s1.wide p.2) m false ∧ s.frame s1 t (Src16.autoTarget op) []) ∧
    (∀ p ∈ [(Instr.sbed op, Wide.d), (.sbex op, .x), (.sbey op, .y)],
      ∃ t, exec p.1 s = .next t ∧ t.regs = (s1.setWide p.2 (subtractedValue (s1.wide p.2) m s.ccr.c)).regs ∧
        t.ccr = stickyZ s.ccr (subtractedCcr s.ccr (s1.wide p.2) m s.ccr.c) ∧
        s.frame s1 t (Src16.autoTarget op) []) ∧
    (∀ p ∈ [(Instr.cpd op, Wide.d), (.cpx op, .x), (.cpy op, .y), (.cps op, .sp)],
      ∃ t, exec p.1 s = .next t ∧ t.regs = s1.regs ∧ t.ccr = subtractedCcr s.ccr (s1.wide p.2) m false ∧
        s.frame s1 t (Src16.autoTarget op) []) ∧
    ∀ p ∈ [(Instr.cped op, Wide.d), (.cpex op, .x), (.cpey op, .y), (.cpes op, .sp)],
      ∃ t, exec p.1 s = .next t ∧ t.regs = s1.regs ∧
        t.ccr = stickyZ s.ccr (subtractedCcr s.ccr (s1.wide p.2) m s.ccr.c) ∧
        s.frame s1 t (Src16.autoTarget op) []

/-- R232, R233, R277 to R279, R286 to R288, R590. ABX, ABY: the zero-extended B added, no flag. DES, INS: SP less or
more one, no flag. DEX, DEY, INX, INY: Z alone from the result. NOP: the state as it was, the PC at the next
instruction. -/
def Obligations.IndexAdjustments : Prop :=
  ∀ s : State,
    (∀ p ∈ [(Instr.abx, s.setX (BitVec.ofNat 16 (s.x.toNat + s.b.toNat))),
        (.aby, s.setY (BitVec.ofNat 16 (s.y.toNat + s.b.toNat))),
        (.des, s.setSp (BitVec.ofInt 16 (s.sp.toInt - 1))), (.ins, s.setSp (BitVec.ofInt 16 (s.sp.toInt + 1))),
        (.nop, s)],
      ∃ t, exec p.1 s = .next t ∧ t.regs = p.2.regs ∧ t.ccr = s.ccr ∧ s.still t) ∧
    ∀ p ∈ [(Instr.dex, AutoReg.x, (-1 : Int)), (.dey, .y, -1), (.inx, .x, 1), (.iny, .y, 1)],
      let v := BitVec.ofInt 16 ((s.autoReg p.2.1).toInt + p.2.2)
      ∃ t, exec p.1 s = .next t ∧ t.regs = (s.setAutoReg p.2.1 v).regs ∧
        t.ccr = { s.ccr with z := decide (v = 0) } ∧ s.still t

/-- R265. DAA on every state: the correction of the spec, V left open (U7). That it takes this form outside the spec's
table too is decision D21, the model's choice (log 16). After the binary sum of two BCD bytes with a carry in (ABA,
ADDA, ADCA), it leaves the decimal sum of the two, C a sum above 99. -/
def Obligations.DecimalAdjust : Prop :=
  (∀ s : State,
    let lo := s.a.toNat % 16
    let hi := s.a.toNat / 16
    let high := decide (9 < hi) || s.ccr.c || decide (hi = 9 ∧ 9 < lo)
    let r := BitVec.ofNat 8 (s.a.toNat + (if high then 0x60 else 0) + if decide (9 < lo) || s.ccr.h then 0x06 else 0)
    ∃ t, exec .daa s = .next t ∧ t.regs = (s.setA r).regs ∧ s.still t ∧
      t.ccr = { s.ccr with n := r.msb, z := decide (r = 0), v := t.ccr.v, c := high }) ∧
  ∀ (s : State) (p q : Nat) (c : Bool), p < 100 → q < 100 →
    let bcd : Nat → Byte := fun n => BitVec.ofNat 8 (n / 10 * 16 + n % 10)
    let sum := p + q + c.toNat
    s.a = addedValue (bcd p) (bcd q) c → s.ccr.h = addedHalf (bcd p) (bcd q) c →
    s.ccr.c = decide (2 ^ 8 ≤ exactSum (bcd p) (bcd q) c) →
    ∃ t, exec .daa s = .next t ∧ t.a = bcd (sum % 100) ∧ t.ccr.c = decide (100 ≤ sum)

/-! ## Operations on one operand (41 section 4; 42 sections 2 and 5 to 7; 44 sections 2 to 7) -/

/-- R270 to R285, R358 to R373. Decrement, increment, complement and negate on an accumulator, an index register, a byte
and a word of memory: result and flags by exact arithmetic. The memory forms write back where they read. -/
def Obligations.DecIncComNeg : Prop :=
  (∀ s : State,
    (∀ p ∈ [(Instr.deca, Unary.dec, Acc.a), (.decb, .dec, .b), (.inca, .inc, .a), (.incb, .inc, .b),
        (.coma, .com, .a), (.comb, .com, .b), (.nega, .neg, .a), (.negb, .neg, .b)],
      ∃ t, exec p.1 s = .next t ∧ t.regs = (s.setAcc p.2.2 (p.2.1.value s.ccr (s.acc p.2.2))).regs ∧
        t.ccr = p.2.1.flags s.ccr (s.acc p.2.2) ∧ s.still t) ∧
    ∀ p ∈ [(Instr.decx, Unary.dec, Wide.x), (.decy, .dec, .y), (.incx, .inc, .x), (.incy, .inc, .y),
        (.comx, .com, .x), (.comy, .com, .y), (.negx, .neg, .x), (.negy, .neg, .y)],
      ∃ t, exec p.1 s = .next t ∧ t.regs = (s.setWide p.2.2 (p.2.1.value s.ccr (s.wide p.2.2))).regs ∧
        t.ccr = p.2.1.flags s.ccr (s.wide p.2.2) ∧ s.still t) ∧
  ∀ (s : State) (op : ExtIdx),
    let a := (s.eaExtIdx op).1
    let s1 := (s.eaExtIdx op).2
    (∀ p ∈ [(Instr.dec op, Unary.dec), (.inc op, .inc), (.com op, .com), (.neg op, .neg)],
      let v := p.2.value s.ccr (s.read8 a)
      ∃ t, exec p.1 s = .next t ∧ t.regs = s1.regs ∧ t.ccr = p.2.flags s.ccr (s.read8 a) ∧ s1.storedByte t a v ∧
        s.frame s1 t (ExtIdx.autoTarget op) [s1.locate a]) ∧
    ∀ p ∈ [(Instr.decw op, Unary.dec), (.incw op, .inc), (.comw op, .com), (.negw op, .neg)],
      let v := p.2.value s.ccr (s.read16 a)
      ∃ t, exec p.1 s = .next t ∧ t.regs = s1.regs ∧ t.ccr = p.2.flags s.ccr (s.read16 a) ∧ s1.storedWord t a v ∧
        s.frame s1 t (ExtIdx.autoTarget op) (s1.wordLocs a v)

/-- R410 to R456. Shifts and rotates on a register, a byte and a word of memory: result and C by exact arithmetic, V the
exclusive or of N and C. -/
def Obligations.ShiftsAndRotates : Prop :=
  (∀ s : State,
    (∀ p ∈ [(Instr.asla, Unary.asl, Acc.a), (.aslb, .asl, .b), (.asra, .asr, .a), (.asrb, .asr, .b),
        (.lsra, .lsr, .a), (.lsrb, .lsr, .b), (.rola, .rol, .a), (.rolb, .rol, .b), (.rora, .ror, .a),
        (.rorb, .ror, .b)],
      ∃ t, exec p.1 s = .next t ∧ t.regs = (s.setAcc p.2.2 (p.2.1.value s.ccr (s.acc p.2.2))).regs ∧
        t.ccr = p.2.1.flags s.ccr (s.acc p.2.2) ∧ s.still t) ∧
    ∀ p ∈ [(Instr.asld, Unary.asl, Wide.d), (.lsrd, .lsr, .d), (.aslx, .asl, .x), (.asly, .asl, .y),
        (.asrx, .asr, .x), (.asry, .asr, .y), (.lsrx, .lsr, .x), (.lsry, .lsr, .y), (.rolx, .rol, .x),
        (.roly, .rol, .y), (.rorx, .ror, .x), (.rory, .ror, .y)],
      ∃ t, exec p.1 s = .next t ∧ t.regs = (s.setWide p.2.2 (p.2.1.value s.ccr (s.wide p.2.2))).regs ∧
        t.ccr = p.2.1.flags s.ccr (s.wide p.2.2) ∧ s.still t) ∧
  ∀ (s : State) (op : ExtIdx),
    let a := (s.eaExtIdx op).1
    let s1 := (s.eaExtIdx op).2
    (∀ p ∈ [(Instr.asl op, Unary.asl), (.asr op, .asr), (.lsr op, .lsr), (.rol op, .rol), (.ror op, .ror)],
      let v := p.2.value s.ccr (s.read8 a)
      ∃ t, exec p.1 s = .next t ∧ t.regs = s1.regs ∧ t.ccr = p.2.flags s.ccr (s.read8 a) ∧ s1.storedByte t a v ∧
        s.frame s1 t (ExtIdx.autoTarget op) [s1.locate a]) ∧
    ∀ p ∈ [(Instr.aslw op, Unary.asl), (.asrw op, .asr), (.lsrw op, .lsr), (.rolw op, .rol), (.rorw op, .ror)],
      let v := p.2.value s.ccr (s.read16 a)
      ∃ t, exec p.1 s = .next t ∧ t.regs = s1.regs ∧ t.ccr = p.2.flags s.ccr (s.read16 a) ∧ s1.storedWord t a v ∧
        s.frame s1 t (ExtIdx.autoTarget op) (s1.wordLocs a v)

/-- R315 to R321, R350 to R355. TST reads and writes no byte: N and Z from the operand, V and C cleared. CLR writes
zero, with N, V, C clear and Z set. -/
def Obligations.TestsAndClears : Prop :=
  let tested : {n : Nat} → Ccr → BitVec n → Ccr := fun f v => { loadedCcr f v with c := false }
  let cleared : Ccr → Ccr := fun f => { f with n := false, z := true, v := false, c := false }
  (∀ s : State,
    (∀ p ∈ [(Instr.tsta, tested s.ccr s.a), (.tstb, tested s.ccr s.b), (.tstx, tested s.ccr s.x),
        (.tsty, tested s.ccr s.y)],
      ∃ t, exec p.1 s = .next t ∧ t.regs = s.regs ∧ t.ccr = p.2 ∧ s.still t) ∧
    ∀ p ∈ [(Instr.clra, s.setA 0), (.clrb, s.setB 0), (.clrx, s.setX 0), (.clry, s.setY 0)],
      ∃ t, exec p.1 s = .next t ∧ t.regs = p.2.regs ∧ t.ccr = cleared s.ccr ∧ s.still t) ∧
  ∀ (s : State) (op : ExtIdx),
    let a := (s.eaExtIdx op).1
    let s1 := (s.eaExtIdx op).2
    (∀ p ∈ [(Instr.tst op, tested s.ccr (s.read8 a)), (.tstw op, tested s.ccr (s.read16 a))],
      ∃ t, exec p.1 s = .next t ∧ t.regs = s1.regs ∧ t.ccr = p.2 ∧ s.frame s1 t (ExtIdx.autoTarget op) []) ∧
    (∃ t, exec (.clr op) s = .next t ∧ t.regs = s1.regs ∧ t.ccr = cleared s.ccr ∧ s1.storedByte t a 0 ∧
      s.frame s1 t (ExtIdx.autoTarget op) [s1.locate a]) ∧
    ∃ t, exec (.clrw op) s = .next t ∧ t.regs = s1.regs ∧ t.ccr = cleared s.ccr ∧ s1.storedWord t a 0 ∧
      s.frame s1 t (ExtIdx.autoTarget op) (s1.wordLocs a 0)

/-- R325 to R337, R404 to R407. AND, OR, exclusive or into A, B, X, Y, bit by bit, and BITA, BITB, BITX, BITY, which
write the flags of the AND alone: N and Z from the result, V clear, C untouched. The index register of the word forms is
the one the addressing mode leaves, which the model deduces (log 20). -/
def Obligations.BitwiseLogic : Prop :=
  (∀ (s : State) (op : Src8),
    let m := (s.src8 op).1
    let s1 := (s.src8 op).2
    (∀ p ∈ [(Instr.anda op, Acc.a, fun x y => x && y), (.andb op, .b, fun x y => x && y),
        (.oraa op, .a, fun x y => x || y), (.orab op, .b, fun x y => x || y), (.eora op, .a, fun x y => x != y),
        (.eorb op, .b, fun x y => x != y)],
      ∃ v : Byte, (∀ k < 8, v.getLsbD k = p.2.2 ((s.acc p.2.1).getLsbD k) (m.getLsbD k)) ∧
        ∃ t, exec p.1 s = .next t ∧ t.regs = (s1.setAcc p.2.1 v).regs ∧ t.ccr = loadedCcr s.ccr v ∧
          s.frame s1 t (Src8.autoTarget op) []) ∧
    ∀ p ∈ [(Instr.bita op, s.a), (.bitb op, s.b)],
      ∃ v : Byte, (∀ k < 8, v.getLsbD k = (p.2.getLsbD k && m.getLsbD k)) ∧
        ∃ t, exec p.1 s = .next t ∧ t.regs = s1.regs ∧ t.ccr = loadedCcr s.ccr v ∧
          s.frame s1 t (Src8.autoTarget op) []) ∧
  ∀ (s : State) (op : Src16),
    let m := (s.src16 op).1
    let s1 := (s.src16 op).2
    (∀ p ∈ [(Instr.andx op, Wide.x, fun x y => x && y), (.andy op, .y, fun x y => x && y),
        (.orx op, .x, fun x y => x || y), (.ory op, .y, fun x y => x || y), (.eorx op, .x, fun x y => x != y),
        (.eory op, .y, fun x y => x != y)],
      ∃ v : Word, (∀ k < 16, v.getLsbD k = p.2.2 ((s1.wide p.2.1).getLsbD k) (m.getLsbD k)) ∧
        ∃ t, exec p.1 s = .next t ∧ t.regs = (s1.setWide p.2.1 v).regs ∧ t.ccr = loadedCcr s.ccr v ∧
          s.frame s1 t (Src16.autoTarget op) []) ∧
    ∀ p ∈ [(Instr.bitx op, Wide.x), (.bity op, .y)],
      ∃ v : Word, (∀ k < 16, v.getLsbD k = ((s1.wide p.2).getLsbD k && m.getLsbD k)) ∧
        ∃ t, exec p.1 s = .next t ∧ t.regs = s1.regs ∧ t.ccr = loadedCcr s.ccr v ∧
          s.frame s1 t (Src16.autoTarget op) []

/-- R200, R201, R28, R692, R340 to R347. A CCR write: in user state S, X and I stay; X never rises; I falling sets the
inhibit of one instruction. A CCRH write: nothing in user state, else IPL, and U where the version has it. A CCRW write
is both, under the privilege of before. ANDCC and ORCC with any mask, and CLC, CLI, CLV, SEC, SEI, SEV, offer each bit
of the CCR anded or ored with its mask bit, and change nothing else. The sources say of ANDCC, CLI and TAP that clearing
I inhibits; that every write of the CCR does is decision D26 (log 25), and that a CCRH write drops the bits that do not
exist is decision D20 (log 21): the model's choices. -/
def Obligations.CcrWritesAndMasks : Prop :=
  (∀ (s : State) (v : Byte),
    let new := offeredCcr s.userState s.ccr v.getLsbD
    s.writeCcr v = (s.setCcr new).setIDelay (s.iDelay || s.ccr.i && !new.i) ∧
    (s.cfg.version.isX = true → s.writeCcrh v = s.setCcrh (if s.userState then s.ccrh
      else { u := s.cfg.version.hasUser && v.getLsbD 7, ipl := v.extractLsb' 0 3 })) ∧
    ∀ w : Word, s.writeCcrw w =
      ((s.writeCcrh (hiByte w)).setCcr (s.writeCcr (loByte w)).ccr).setIDelay (s.writeCcr (loByte w)).iDelay) ∧
  ∀ (s : State) (mask : Byte),
    ∀ p ∈ [(Instr.andcc mask, fun k b => b && mask.getLsbD k), (.orcc mask, fun k b => b || mask.getLsbD k),
        (.clc, fun k b => b && decide (k ≠ 0)), (.cli, fun k b => b && decide (k ≠ 4)),
        (.clv, fun k b => b && decide (k ≠ 1)), (.sec, fun k b => b || decide (k = 0)),
        (.sei, fun k b => b || decide (k = 4)), (.sev, fun k b => b || decide (k = 1))],
      ∃ t, exec p.1 s = .next t ∧ t.regs = s.regs ∧
        t.ccr = offeredCcr s.userState s.ccr (fun k => p.2 k (s.ccr.bit k)) ∧
        t.iDelay = (s.iDelay || s.ccr.i && !t.ccr.i) ∧ t.pc = s.pc ∧
        t.special = (s.setIDelay t.iDelay).special ∧ s.bytesKept t [] ∧ s.marked t []

/-! ## Transfers, exchanges and moves (40_load_store_transfer_move.md sections 5 and 6) -/

/-- R190 to R192, R202, R204. TFR and SEX, every pair of register codes. With bit 3 clear: the source, sign-extended
where it has eight bits, into the destination, of which an 8-bit one takes the low byte. With bit 3 set: the tables of
R202, a half written leaving the other half, A and B sign-extended into D, and the sign of D filling X or Y. What a
temporary holds but right after a transfer into it is a free value (D17; log 8), and CCR is written as by any
instruction (D26; log 25), the model's choices. -/
def Obligations.Transfers : Prop :=
  ∀ s : State,
    (∀ src dst : XReg, ∀ v : Word,
      v = (match src with
        | .a => s.a.signExtend 16
        | .b => s.b.signExtend 16
        | .ccr => s.ccr.toByte.signExtend 16
        | .tmp => s.readTmp 3 s.tmp3
        | .d => s.d
        | .x => s.x
        | .y => s.y
        | .sp => s.sp) →
      ∀ i ∈ [Instr.tfr false src dst, .sex false src dst],
        exec i s = .next (match dst with
          | .a => s.setA (loByte v)
          | .b => s.setB (loByte v)
          | .ccr => s.writeCcr (loByte v)
          | .tmp => s.setTmp2 (s.tmpWritten v)
          | .d => s.setD v
          | .x => s.setX v
          | .y => s.setY v
          | .sp => s.setSp v)) ∧
    (∀ p ∈ highBytePairs, exec (.tfr true p.1 p.2.1) s = .next (s.setByteSlot p.2.2.2 (s.byteSlot p.2.2.1))) ∧
    (∀ p ∈ highWordPairs, exec (.tfr true p.1 p.2.1) s = .next (s.setWordSlot p.2.2.2 (s.wordSlot p.2.2.1))) ∧
    exec (.sex true .a .d) s = .next (s.setD (s.a.signExtend 16)) ∧
    exec (.sex true .b .d) s = .next (s.setD (s.b.signExtend 16)) ∧
    exec (.sex true .d .x) s = .next (s.setX (if s.d.toInt < 0 then 0xFFFF else 0)) ∧
    exec (.sex true .d .y) s = .next (s.setY (if s.d.toInt < 0 then 0xFFFF else 0))

/-- R193, R203. EXG, every pair of register codes. Registers of one width swap their old values; with bit 3 clear an
8-bit register goes zero-extended into a 16-bit one and takes its low byte, and the other way round the high byte
becomes $00 for A and $FF for B and CCR; the pairs of D with A and B, and the entries 8C, 9C and C9, are as the spec
lists them. What a temporary holds but right after a transfer into it is a free value (D17; log 8), and CCR is written
as by any instruction (D26; log 25), the model's choices. -/
def Obligations.Exchanges : Prop :=
  ∀ s : State,
    let bytes : List (XReg × ByteSlot) := [(.a, .a), (.b, .b), (.ccr, .ccr)]
    let sources : List (XReg × WordSlot) := [(.tmp, .tmp3), (.d, .d), (.x, .x), (.y, .y), (.sp, .sp)]
    let targets : List (XReg × WordSlot) := [(.tmp, .tmp2), (.d, .d), (.x, .x), (.y, .y), (.sp, .sp)]
    let swapBytes : ByteSlot → ByteSlot → State := fun p q => (s.setByteSlot q (s.byteSlot p)).setByteSlot p (s.byteSlot q)
    let swapWords : WordSlot → WordSlot → State := fun p q => (s.setWordSlot q (s.wordSlot p)).setWordSlot p (s.wordSlot q)
    (∀ p ∈ bytes, ∀ q ∈ bytes, exec (.exg false p.1 q.1) s = .next (swapBytes p.2 q.2)) ∧
    (∀ p ∈ sources, ∀ q ∈ targets, exec (.exg false p.1 q.1) s = .next (swapWords p.2 q.2)) ∧
    (∀ p ∈ bytes, ∀ r ∈ targets, exec (.exg false p.1 r.1) s = .next (
      if r.1 = .d ∧ p.1 ≠ .ccr then s.setD ((s.byteSlot p.2).zeroExtend 16)
      else (s.setWordSlot r.2 ((s.byteSlot p.2).zeroExtend 16)).setByteSlot p.2 (loByte (s.wordSlot r.2)))) ∧
    (∀ r ∈ sources, ∀ q ∈ bytes, exec (.exg false r.1 q.1) s = .next (
      if r.1 = .d ∧ q.1 = .a then (s.setA s.b).setB s.a
      else if r.1 = .d ∧ q.1 = .b then s.setA 0xFF
      else (s.setWordSlot r.2 (joinBytes (if q.1 = .a then 0x00 else 0xFF) (s.byteSlot q.2))).setByteSlot q.2
        (loByte (s.wordSlot r.2)))) ∧
    (∀ p ∈ highBytePairs, (p.1, p.2.1) ≠ (XReg.d, XReg.b) →
      exec (.exg true p.1 p.2.1) s = .next (swapBytes p.2.2.1 p.2.2.2)) ∧
    (∀ p ∈ highWordPairs ++ [(.d, .x, .d, .x), (.d, .y, .d, .y)],
      exec (.exg true p.1 p.2.1) s = .next (swapWords p.2.2.1 p.2.2.2)) ∧
    exec (.exg true .a .d) s = .next (s.setD (s.a.zeroExtend 16)) ∧
    exec (.exg true .b .d) s = .next (s.setD (s.b.zeroExtend 16)) ∧
    exec (.exg true .d .b) s = .next (s.setA 0xFF)

/-- R196 to R199, R206 to R211 and the assembler names of R232, R233, R277, R286, R341 to R347, R512, R513, R732, R733.
TAB and TBA set N, Z and clear V, unlike the transfers; each other mnemonic does what the instruction it names does. -/
def Obligations.NamedTransfersAndAliases : Prop :=
  ∀ s : State,
    (∀ p ∈ [(Instr.tab, s.setB s.a, s.a), (.tba, s.setA s.b, s.b)],
      ∃ t, exec p.1 s = .next t ∧ t.regs = p.2.1.regs ∧ t.ccr = loadedCcr s.ccr p.2.2 ∧ s.still t) ∧
    (∀ p ∈ [(Instr.tpa, s.setA s.ccr.toByte), (.tsx, s.setX s.sp), (.tsy, s.setY s.sp), (.txs, s.setSp s.x),
        (.tys, s.setSp s.y), (.xgdx, (s.setX s.d).setD s.x), (.xgdy, (s.setY s.d).setD s.y)],
      ∃ t, exec p.1 s = .next t ∧ t.regs = p.2.regs ∧ t.ccr = s.ccr ∧ s.still t) ∧
    exec .tap s = .next (s.writeCcr s.a) ∧
    (∀ p ∈ [(Instr.tap, Instr.tfr false .a .ccr), (.tpa, .tfr false .ccr .a), (.tsx, .tfr false .sp .x),
        (.tsy, .tfr false .sp .y), (.txs, .tfr false .x .sp), (.tys, .tfr false .y .sp), (.xgdx, .exg false .d .x),
        (.xgdy, .exg false .d .y), (.abx, .leax (.acc .x .b)), (.aby, .leay (.acc .y .b)),
        (.des, .leas (.off5 .sp (-1))), (.ins, .leas (.off5 .sp 1)), (.clc, .andcc 0xFE), (.cli, .andcc 0xEF),
        (.clv, .andcc 0xFD), (.sec, .orcc 0x01), (.sei, .orcc 0x10), (.sev, .orcc 0x02)],
      exec p.1 s = exec p.2 s) ∧
    (∀ rel, exec (.bhs rel) s = exec (.bcc rel) s ∧ exec (.blo rel) s = exec (.bcs rel) s) ∧
    ∀ rel, exec (.lbhs rel) s = exec (.lbcc rel) s ∧ exec (.lblo rel) s = exec (.lbcs rel) s

/-- R215 to R218, R108. MOVB and MOVW, every class: the source address first, then the destination address, which sees
the registers as the source left them; then the datum is read, then written. No flag changes, no register but those the
two modes move, no byte but those of the destination. A PC-relative source counts from the next instruction, on CPU12X
less one or two by the destination's form. The base of that source, NextPC on CPU12 (N9) and the lag on CPU12X, and a
pointer of the destination read before the datum, also where the spec says to refuse the move (U16), are what the model
deduces (log 38). -/
def Obligations.Moves : Prop :=
  ∀ s : State,
    let lag : Indexed → Word := fun d => if s.cfg.version.isX then
      (match d with
        | .off9 _ _ => 1
        | .off16 _ _ => 2
        | .ind16 _ _ => 2
        | _ => 0) else 0
    let moved : State → State → List Loc → Prop := fun s2 t stored =>
      t.regs = s2.regs ∧ t.ccr = s.ccr ∧ t.pc = s.pc ∧ t.special = s.special ∧ s.bytesKept t stored ∧
        s.marked t stored
    let putsByte : Instr → Byte → Word → State → Prop := fun i v a s2 =>
      ∃ t, exec i s = .next t ∧ s2.storedByte t a v ∧ moved s2 t [s2.locate a]
    let putsWord : Instr → Word → Word → State → Prop := fun i v a s2 =>
      ∃ t, exec i s = .next t ∧ s2.storedWord t a v ∧ moved s2 t (s2.wordLocs a v)
    (∀ v d, putsByte (.movb (.immExt v d)) v d s) ∧ (∀ v d, putsWord (.movw (.immExt v d)) v d s) ∧
    (∀ a d, putsByte (.movb (.extExt a d)) (s.read8 a) d s) ∧ (∀ a d, putsWord (.movw (.extExt a d)) (s.read16 a) d s) ∧
    (∀ v d, putsByte (.movb (.immIdx v d)) v (s.indexed d).1 (s.indexed d).2) ∧
    (∀ v d, putsWord (.movw (.immIdx v d)) v (s.indexed d).1 (s.indexed d).2) ∧
    (∀ a d, putsByte (.movb (.extIdx a d)) (s.read8 a) (s.indexed d).1 (s.indexed d).2) ∧
    (∀ a d, putsWord (.movw (.extIdx a d)) (s.read16 a) (s.indexed d).1 (s.indexed d).2) ∧
    (∀ x d, putsByte (.movb (.idxExt x d)) (s.read8 (s.indexed x).1) d (s.indexed x).2) ∧
    (∀ x d, putsWord (.movw (.idxExt x d)) (s.read16 (s.indexed x).1) d (s.indexed x).2) ∧
    (∀ x d, let src := s.indexedFrom (s.pc - lag d) x
      let dst := src.2.indexed d
      putsByte (.movb (.idxIdx x d)) (s.read8 src.1) dst.1 dst.2) ∧
    ∀ x d, let src := s.indexedFrom (s.pc - lag d) x
      let dst := src.2.indexed d
      putsWord (.movw (.idxIdx x d)) (s.read16 src.1) dst.1 dst.2

/-! ## Multiplication and division (43_mul_div.md) -/

/-- R380 to R382. MUL, EMUL, EMULS: the exact product, unsigned or signed, in D or in Y:D; C bit 7 of the product for
MUL, bit 15 for the others, which set N and Z too; V untouched. Their encodings are 12, 13 and 18 13. -/
def Obligations.Multiplications : Prop :=
  (∀ (v : Version) (rest : List Byte), decode v (0x12 :: rest) = .ok (.mul, rest) ∧
    decode v (0x13 :: rest) = .ok (.emul, rest) ∧ decode v (0x18 :: 0x13 :: rest) = .ok (.emuls, rest)) ∧
  ∀ s : State,
    (∃ t, exec .mul s = .next t ∧ t.d.toNat = s.a.toNat * s.b.toNat ∧ (t.x, t.y, t.sp) = (s.x, s.y, s.sp) ∧
      t.ccr = { s.ccr with c := decide (s.a.toNat * s.b.toNat / 128 % 2 = 1) } ∧ s.still t) ∧
    (∃ t, exec .emul s = .next t ∧ (t.y ++ t.d).toNat = s.d.toNat * s.y.toNat ∧ (t.x, t.sp) = (s.x, s.sp) ∧
      t.ccr = { s.ccr with n := t.y.msb, z := decide (s.d.toNat * s.y.toNat = 0), c := t.d.msb } ∧ s.still t) ∧
    ∃ t, exec .emuls s = .next t ∧ (t.y ++ t.d).toInt = s.d.toInt * s.y.toInt ∧ (t.x, t.sp) = (s.x, s.sp) ∧
      t.ccr = { s.ccr with n := t.y.msb, z := decide (s.d.toInt * s.y.toInt = 0), c := t.d.msb } ∧ s.still t

/-- R383 to R389. EDIV, FDIV, IDIV: quotient and remainder of exact division; a zero divisor sets C, a quotient that
does not fit sets V with C clear. EDIV then leaves Y and D, FDIV and IDIV leave $FFFF in X and D undefined. EDIVS and
IDIVS: a quotient truncated towards zero and a remainder with the sign of the dividend, which is the spec's own choice
(D22; log 17); the error cases as R389 lists them, X and D after the overflow of IDIVS (U9) unconstrained. The flags the
spec leaves undefined are unconstrained (U8). -/
def Obligations.Divisions : Prop :=
  (∀ s : State,
    let x := s.x.toNat
    let d := s.d.toNat
    let yd := (s.y ++ s.d).toNat
    (∃ t, exec .ediv s = .next t ∧ s.still t ∧
      if x = 0 then t.regs = s.regs ∧ t.ccr = { s.ccr with n := t.ccr.n, z := t.ccr.z, v := t.ccr.v, c := true }
      else if 65536 ≤ yd / x then
        t.regs = s.regs ∧ t.ccr = { s.ccr with n := t.ccr.n, z := t.ccr.z, v := true, c := false }
      else t.y.toNat = yd / x ∧ t.d.toNat = yd % x ∧ (t.x, t.sp) = (s.x, s.sp) ∧
        t.ccr = { s.ccr with n := t.y.msb, z := decide (yd / x = 0), v := false, c := false }) ∧
    (∃ t, exec .fdiv s = .next t ∧ s.still t ∧ (t.y, t.sp) = (s.y, s.sp) ∧
      if x ≤ d then t.x = 0xFFFF ∧ t.ccr = { s.ccr with z := false, v := true, c := decide (x = 0) }
      else t.x.toNat = d * 65536 / x ∧ t.d.toNat = d * 65536 % x ∧
        t.ccr = { s.ccr with z := decide (d * 65536 / x = 0), v := false, c := false }) ∧
    ∃ t, exec .idiv s = .next t ∧ s.still t ∧ (t.y, t.sp) = (s.y, s.sp) ∧
      if x = 0 then t.x = 0xFFFF ∧ t.ccr = { s.ccr with z := false, v := false, c := true }
      else t.x.toNat = d / x ∧ t.d.toNat = d % x ∧
        t.ccr = { s.ccr with z := decide (d / x = 0), v := false, c := false }) ∧
  ∀ s : State,
    let x := s.x.toInt
    let d := s.d.toInt
    let yd := (s.y ++ s.d).toInt
    (∃ t, exec .edivs s = .next t ∧ s.still t ∧
      if x = 0 then t.regs = s.regs ∧ t.ccr = { s.ccr with n := t.ccr.n, z := t.ccr.z, v := t.ccr.v, c := true }
      else if outOfRange 16 (yd.tdiv x) then
        t.regs = s.regs ∧ t.ccr = { s.ccr with n := t.ccr.n, z := t.ccr.z, v := true, c := false }
      else t.y.toInt = yd.tdiv x ∧ t.d.toInt = yd - t.y.toInt * x ∧ (t.x, t.sp) = (s.x, s.sp) ∧
        t.ccr = { s.ccr with n := decide (yd.tdiv x < 0), z := decide (yd.tdiv x = 0), v := false, c := false }) ∧
    ∃ t, exec .idivs s = .next t ∧ s.still t ∧ (t.y, t.sp) = (s.y, s.sp) ∧
      if x = 0 then t.regs = s.regs ∧ t.ccr = { s.ccr with n := t.ccr.n, z := t.ccr.z, v := t.ccr.v, c := true }
      else if outOfRange 16 (d.tdiv x) then
        t.ccr = { s.ccr with n := t.ccr.n, z := t.ccr.z, v := true, c := false }
      else t.x.toInt = d.tdiv x ∧ t.d.toInt = d - t.x.toInt * x ∧
        t.ccr = { s.ccr with n := decide (d.tdiv x < 0), z := decide (d.tdiv x = 0), v := false, c := false }

/-! ## Fuzzy logic, minimum and maximum, sums, tables (45_fuzzy_minmax_mac_table.md) -/

/-- R470 to R472, R131. MEM, where the version has it: the grade of A under the membership function at X, exact and
capped at $FF, outside the two points zero, is written at Y; Y goes up by one and X by four; S, X and I keep their
value, the other flags are unconstrained. Where the version has no fuzzy instructions, MEM, REV, REVW, WAV and wavr do
what a trap does. The return address of that trap is decision D14, the model's choice (log 22). -/
def Obligations.Membership : Prop :=
  (∀ s : State, s.cfg.version.hasFuzzy = true →
    let a := s.a.toNat
    let p1 := (s.read8 s.x).toNat
    let p2 := (s.read8 (s.x + 1)).toNat
    let s1 := (s.read8 (s.x + 2)).toNat
    let s2 := (s.read8 (s.x + 3)).toNat
    let grade := if a < p1 ∨ p2 < a then 0
      else if s1 ≠ 0 ∧ s1 * (a - p1) ≤ 255 then s1 * (a - p1)
      else if s2 ≠ 0 ∧ s2 * (p2 - a) ≤ 255 then s2 * (p2 - a) else 255
    ∃ t, exec .mem s = .next t ∧ s.storedByte t s.y (BitVec.ofNat 8 grade) ∧
      t.regs = ((s.setY (s.y + 1)).setX (s.x + 4)).regs ∧ (t.ccr.s, t.ccr.x, t.ccr.i) = (s.ccr.s, s.ccr.x, s.ccr.i) ∧
      t.pc = s.pc ∧ t.special = s.special ∧ s.bytesKept t [s.locate s.y] ∧ s.marked t [s.locate s.y]) ∧
  ∀ s : State, s.cfg.version.hasFuzzy = false →
    ∀ i ∈ [Instr.mem, .rev, .revw, .wav, .wavr], ∀ tn, exec i s = exec (.trap tn) s

/-- R473 to R475. REV and REVW, where the version has them, one element of the rule list a step, which is decision D23,
the model's choice (log 19): the end marker leaves the PC at the next instruction, any other element puts it back on the
instruction. A separator turns V over, and A becomes $FF before antecedents; before consequents REVW with C set weighs A
by the weight at Y plus one. An antecedent gives A the smaller of A and the input; a consequent writes A where the
output is smaller. REVW keeps C but for the last step; the flags the spec leaves undefined are unconstrained. -/
def Obligations.RuleEvaluation : Prop :=
  ∀ s : State, s.cfg.version.hasFuzzy = true →
    let ruled : State → Word → Word → Bool → Prop := fun t target marker inputs =>
      let f := s.read8 target
      t.special = s.special ∧ (t.ccr.s, t.ccr.x, t.ccr.i) = (s.ccr.s, s.ccr.x, s.ccr.i) ∧
      t.ccr.v = (s.ccr.v != decide (marker = 0xFFFE#16)) ∧ t.pc = (if marker = 0xFFFF#16 then s.pc else s.pc - 2) ∧
      (t.b, t.sp) = (s.b, s.sp) ∧
      (inputs = true → s.ccr.v = false → t.a.toNat = min s.a.toNat f.toNat) ∧
      (inputs = true → s.ccr.v = true → t.a = s.a) ∧
      if inputs = true ∧ s.ccr.v = true ∧ f.toNat < s.a.toNat then
        s.storedByte t target s.a ∧ s.bytesKept t [s.locate target] ∧ s.marked t [s.locate target]
      else s.bytesKept t [] ∧ s.marked t []
    (∃ t, exec .rev s = .next t ∧
      let e := s.read8 s.x
      let marker : Word := if e = 0xFF#8 then 0xFFFF#16 else if e = 0xFE#8 then 0xFFFE#16 else 0#16
      ruled t (s.y + e.zeroExtend 16) marker (decide (marker = 0#16)) ∧ (t.x, t.y) = (s.x + 1, s.y) ∧
      (e = 0xFF#8 → t.a = s.a) ∧ (e = 0xFE#8 → t.a = if s.ccr.v then 0xFF#8 else s.a)) ∧
    ∃ t, exec .revw s = .next t ∧
      let e := s.read16 s.x
      let weighs := decide (e = 0xFFFE#16) && !s.ccr.v && s.ccr.c
      ruled t e e (decide (e ≠ 0xFFFE#16 ∧ e ≠ 0xFFFF#16)) ∧
      (t.x, t.y) = (s.x + 2, if weighs then s.y + 1 else s.y) ∧ (e ≠ 0xFFFF#16 → t.ccr.c = s.ccr.c) ∧
      (e = 0xFFFF#16 → t.a = s.a) ∧
      (e = 0xFFFE#16 → if weighs then t.a.toNat = s.a.toNat * ((s.read8 s.y).toNat + 1) / 256
        else t.a = if s.ccr.v then 0xFF#8 else s.a)

/-- R473, R476 to R478. One pair of a sum: WAV begins with sums of zero; `3C` goes on with the sums kept, or, when none
are kept, pulls them from the stack and takes the pending pair without counting. The products and weights of the bytes
at X and Y are added. When B is zero the sum of products goes to Y:D, the sum of weights to X and Z is set; else X and Y
move on, and the PC goes back by one, to the `3C` byte. H, N, V and C are unconstrained. One pair a step, the sums kept
between two steps, `3C` taking up either kind of sums, and Z keeping its value until the end are decision D23, the
model's choice (log 19). -/
def Obligations.WeightedAveragePair : Prop :=
  ∀ s : State, s.cfg.version.hasFuzzy = true →
    let added : State → Byte → Word → WavSums → Prop := fun t count sp w =>
      let sop := w.sop.toNat + (s.read8 s.x).toNat * (s.read8 s.y).toNat
      let sow := w.sow.toNat + (s.read8 s.y).toNat
      t.sp = sp ∧ t.pc = (if count = 0 then s.pc else s.pc - 1) ∧ t.special = (s.setWav t.wav).special ∧
      (t.ccr.s, t.ccr.x, t.ccr.i, t.ccr.z) = (s.ccr.s, s.ccr.x, s.ccr.i, decide (count = 0) || s.ccr.z) ∧
      s.bytesKept t [] ∧ s.marked t [] ∧
      if count = 0 then t.wav = none ∧ (t.y ++ t.d).toNat = sop % 2 ^ 32 ∧ t.x.toNat = sow % 2 ^ 16
      else (t.a, t.b, t.x, t.y) = (s.a, count, s.x + 1, s.y + 1) ∧
        t.wav = some { sop := BitVec.ofNat 32 sop, sow := BitVec.ofNat 16 sow }
    (∃ t, exec .wav s = .next t ∧ added t (s.b - 1) s.sp { sop := 0, sow := 0 }) ∧
    (∀ w, s.wav = some w → ∃ t, exec .wavr s = .next t ∧ added t (s.b - 1) s.sp w) ∧
    (s.wav = none → ∃ t, exec .wavr s = .next t ∧
      added t s.b (s.sp + 6) { sop := s.read16 s.sp ++ s.read16 (s.sp + 2), sow := s.read16 (s.sp + 4) })

/-- R476. The whole of WAV: from B pairs, 256 when B is zero, WAV and then `3C` for each further pair leave the exact
sum of the products of the bytes at X and Y in Y:D and the exact sum of the bytes at Y in X, and nothing in progress.
That the sums are made step by step is decision D23, the model's choice (log 19). -/
def Obligations.WeightedAverageSums : Prop :=
  ∀ (s : State) (run : Nat → State),
    let n := if s.b.toNat = 0 then 256 else s.b.toNat
    let x := fun k => (s.read8 (s.x + BitVec.ofNat 16 k)).toNat
    let y := fun k => (s.read8 (s.y + BitVec.ofNat 16 k)).toNat
    s.cfg.version.hasFuzzy = true → exec .wav s = .next (run 1) →
    (∀ k, 1 ≤ k → k < n → exec .wavr (run k) = .next (run (k + 1))) →
    ((run n).y ++ (run n).d).toNat = ((List.range n).map fun k => x k * y k).sum ∧
      (run n).x.toNat = ((List.range n).map y).sum ∧ (run n).wav = none ∧ (run n).ccr.z = true ∧
      s.bytesKept (run n) [] ∧ (run n).sp = s.sp

/-- R480 to R488. Minimum and maximum, unsigned, into the register or into memory, which is written always; N, Z, V and
C from the register less the operand. -/
def Obligations.MinimumAndMaximum : Prop :=
  ∀ (s : State) (op : Indexed),
    let a := (s.indexed op).1
    let s1 := (s.indexed op).2
    let m := s.read8 a
    let w := s.read16 a
    (∀ p ∈ [(Instr.maxa op, max s.a.toNat m.toNat), (.mina op, min s.a.toNat m.toNat)],
      ∃ t, exec p.1 s = .next t ∧ t.regs = (s1.setA (BitVec.ofNat 8 p.2)).regs ∧
        t.ccr = subtractedCcr s.ccr s.a m false ∧ s.frame s1 t (Indexed.autoTarget op) []) ∧
    (∀ p ∈ [(Instr.maxm op, max s.a.toNat m.toNat), (.minm op, min s.a.toNat m.toNat)],
      ∃ t, exec p.1 s = .next t ∧ t.regs = s1.regs ∧ t.ccr = subtractedCcr s.ccr s.a m false ∧
        s1.storedByte t a (BitVec.ofNat 8 p.2) ∧ s.frame s1 t (Indexed.autoTarget op) [s1.locate a]) ∧
    (∀ p ∈ [(Instr.emaxd op, max s.d.toNat w.toNat), (.emind op, min s.d.toNat w.toNat)],
      ∃ t, exec p.1 s = .next t ∧ t.regs = (s1.setD (BitVec.ofNat 16 p.2)).regs ∧
        t.ccr = subtractedCcr s.ccr s.d w false ∧ s.frame s1 t (Indexed.autoTarget op) []) ∧
    ∀ p ∈ [(Instr.emaxm op, max s.d.toNat w.toNat), (.eminm op, min s.d.toNat w.toNat)],
      ∃ t, exec p.1 s = .next t ∧ t.regs = s1.regs ∧ t.ccr = subtractedCcr s.ccr s.d w false ∧
        s1.storedWord t a (BitVec.ofNat 16 p.2) ∧
        s.frame s1 t (Indexed.autoTarget op) (s1.wordLocs a (BitVec.ofNat 16 p.2))

/-- R490. EMACS: the signed product of the words at X and Y added to the 32-bit sum at the address, high word first; V a
sum that does not fit signed, C a carry from the low word into the high one, N and Z of the sum. -/
def Obligations.MultiplyAccumulate : Prop :=
  ∀ (s : State) (ea : Word),
    let product := (s.read16 s.x).toInt * (s.read16 s.y).toInt
    let old : BitVec 32 := s.read16 ea ++ s.read16 (ea + 2)
    let sum := BitVec.ofInt 32 (old.toInt + product)
    let hi : Word := sum.extractLsb' 16 16
    let lo : Word := sum.extractLsb' 0 16
    let s1 := s.write16 ea hi
    ∃ t, exec (.emacs ea) s = .next t ∧ t.regs = s.regs ∧ s.storedWord t ea hi ∧ s1.storedWord t (ea + 2) lo ∧
      t.ccr = { s.ccr with
        n := decide (sum.toInt < 0), z := decide (sum = 0), v := outOfRange 32 (old.toInt + product)
        c := decide (65536 ≤ (old.toNat : Int) % 65536 + product % 65536) } ∧
      t.pc = s.pc ∧ t.special = s.special ∧ s.bytesKept t (s.wordLocs ea hi ++ s1.wordLocs (ea + 2) lo) ∧
      s.marked t (s.wordLocs ea hi ++ s1.wordLocs (ea + 2) lo)

/-- R492 to R494, under the spec's own choice of unsigned entries and rounding down (D24; log 18). TBL and ETBL: of the
exact value between the two entries, B 256ths of the way, the register takes the whole part, C says whether what is left
is a half or more; the result lies between the entries; N and Z from it, V untouched. -/
def Obligations.TableInterpolation : Prop :=
  ∀ (s : State) (op : Indexed),
    let a := (s.indexed op).1
    let s1 := (s.indexed op).2
    let value : Nat → Nat → Int := fun y1 y2 => 256 * y1 + s.b.toNat * ((y2 : Int) - y1)
    let between : Nat → Nat → Nat → Bool → Prop := fun y1 y2 r c =>
      256 * (r : Int) ≤ value y1 y2 ∧ value y1 y2 < 256 * r + 256 ∧ (c = true ↔ 256 * (r : Int) + 128 ≤ value y1 y2) ∧
        min y1 y2 ≤ r ∧ r ≤ max y1 y2
    (∃ t, exec (.tbl op) s = .next t ∧ between (s.read8 a).toNat (s.read8 (a + 1)).toNat t.a.toNat t.ccr.c ∧
      t.regs = (s1.setA t.a).regs ∧ t.ccr = { s.ccr with n := t.a.msb, z := decide (t.a = 0), c := t.ccr.c } ∧
      s.frame s1 t (Indexed.autoTarget op) []) ∧
    ∃ t, exec (.etbl op) s = .next t ∧ between (s.read16 a).toNat (s.read16 (a + 2)).toNat t.d.toNat t.ccr.c ∧
      t.regs = (s1.setD t.d).regs ∧ t.ccr = { s.ccr with n := t.d.msb, z := decide (t.d = 0), c := t.ccr.c } ∧
      s.frame s1 t (Indexed.autoTarget op) []

/-! ## Branches and loops (46_branch_loop.md) -/

/-- R500 to R518, R720 to R738, R86. Every branch: taken under its condition on the flags, the PC then the next
instruction plus the signed offset and the queue refilled (D7; log 13), else the next instruction; nothing else changes.
-/
def Obligations.Branches : Prop :=
  ∀ s : State,
    let f := s.ccr
    let goes : Instr → Bool → Int → Prop := fun i cond offset => ∃ t, exec i s = .next t ∧
      t.pc = (if cond then BitVec.ofInt 16 (s.pc.toNat + offset) else s.pc) ∧ t.regs = s.regs ∧ t.ccr = s.ccr ∧
      t.special = s.special ∧ s.bytesKept t [] ∧ t.stale = (if cond then [] else s.stale) ∧ t.pageStored = s.pageStored
    (∀ rel : Byte, ∀ p ∈ [(Instr.bra rel, true), (.brn rel, false), (.bcc rel, !f.c), (.bcs rel, f.c), (.beq rel, f.z),
        (.bne rel, !f.z), (.bmi rel, f.n), (.bpl rel, !f.n), (.bvc rel, !f.v), (.bvs rel, f.v),
        (.bhi rel, !f.c && !f.z), (.bhs rel, !f.c), (.blo rel, f.c), (.bls rel, f.c || f.z), (.bge rel, f.n == f.v),
        (.bgt rel, !f.z && f.n == f.v), (.ble rel, f.z || f.n != f.v), (.blt rel, f.n != f.v)],
      goes p.1 p.2 rel.toInt) ∧
    ∀ rel : Word, ∀ p ∈ [(Instr.lbra rel, true), (.lbrn rel, false), (.lbcc rel, !f.c), (.lbcs rel, f.c),
        (.lbeq rel, f.z), (.lbne rel, !f.z), (.lbmi rel, f.n), (.lbpl rel, !f.n), (.lbvc rel, !f.v), (.lbvs rel, f.v),
        (.lbhi rel, !f.c && !f.z), (.lbhs rel, !f.c), (.lblo rel, f.c), (.lbls rel, f.c || f.z),
        (.lbge rel, f.n == f.v), (.lbgt rel, !f.z && f.n == f.v), (.lble rel, f.z || f.n != f.v),
        (.lblt rel, f.n != f.v)],
      goes p.1 p.2 rel.toInt

/-- R503 to R518, R723 to R738 with R250, R300. After a compare of accumulators or words the conditions mean what their
names say: higher and lower for unsigned operands, greater and less for signed ones, equal and not equal for both. The
register that CPX, CPY and CPS compare is the one the addressing mode leaves, which the model deduces (log 20). -/
def Obligations.ConditionsAfterCompare : Prop :=
  let means : {n : Nat} → (p q : BitVec n) → (s : State) → Prop := fun p q s =>
    let goes : Instr → Prop → Int → Prop := fun i cond offset => ∃ t, exec i s = .next t ∧
      (cond → t.pc = BitVec.ofInt 16 (s.pc.toNat + offset)) ∧ (¬ cond → t.pc = s.pc)
    (∀ rel : Byte, ∀ i ∈ [(Instr.bhi rel, q.toNat < p.toNat), (.bhs rel, q.toNat ≤ p.toNat), (.blo rel, p.toNat < q.toNat),
        (.bls rel, p.toNat ≤ q.toNat), (.bgt rel, q.toInt < p.toInt), (.bge rel, q.toInt ≤ p.toInt),
        (.blt rel, p.toInt < q.toInt), (.ble rel, p.toInt ≤ q.toInt), (.beq rel, p = q), (.bne rel, p ≠ q)],
      goes i.1 i.2 rel.toInt) ∧
    ∀ rel : Word, ∀ i ∈ [(Instr.lbhi rel, q.toNat < p.toNat), (.lbhs rel, q.toNat ≤ p.toNat),
        (.lblo rel, p.toNat < q.toNat), (.lbls rel, p.toNat ≤ q.toNat), (.lbgt rel, q.toInt < p.toInt),
        (.lbge rel, q.toInt ≤ p.toInt), (.lblt rel, p.toInt < q.toInt), (.lble rel, p.toInt ≤ q.toInt),
        (.lbeq rel, p = q), (.lbne rel, p ≠ q)],
      goes i.1 i.2 rel.toInt
  ∀ (s t : State),
    (∀ op, (exec (.cmpa op) s = .next t → means s.a (s.src8 op).1 t) ∧ (exec (.cmpb op) s = .next t → means s.b (s.src8 op).1 t)) ∧
    (∀ op, exec (.cpd op) s = .next t → means s.d (s.src16 op).1 t) ∧
    (∀ op, exec (.cpx op) s = .next t → means (s.src16 op).2.x (s.src16 op).1 t) ∧
    (∀ op, exec (.cpy op) s = .next t → means (s.src16 op).2.y (s.src16 op).1 t) ∧
    (∀ op, exec (.cps op) s = .next t → means (s.src16 op).2.sp (s.src16 op).1 t) ∧
    (exec .cba s = .next t → means s.a s.b t)

/-- R400 to R403, R519 to R521. BCLR, BSET, BTAS: each bit of the byte cleared or set by its mask bit, written always; N
and Z from the byte written, for BTAS from the byte read and the mask; V clear, C untouched. BRCLR and BRSET: taken when
every bit of the byte that the mask selects is 0, or 1, which refills the queue (R86, D7; log 13); the operand's mode
acts either way. -/
def Obligations.BitsOfMemory : Prop :=
  (∀ (s : State) (op : DirExtIdx) (mask : Byte),
    let a := (s.ea op).1
    let s1 := (s.ea op).2
    let m := s.read8 a
    ∀ p ∈ [(Instr.bclr op mask, m &&& ~~~mask, m &&& ~~~mask), (.bset op mask, m ||| mask, m ||| mask),
        (.btas op mask, m ||| mask, m &&& mask)],
      ∃ t, exec p.1 s = .next t ∧ t.regs = s1.regs ∧ t.ccr = loadedCcr s.ccr p.2.2 ∧ s1.storedByte t a p.2.1 ∧
        s.frame s1 t (DirExtIdx.autoTarget op) [s1.locate a]) ∧
  ∀ (s : State) (op : DirExtIdx) (mask rel : Byte),
    let s1 := (s.ea op).2
    let m := s.read8 (s.ea op).1
    ∀ p ∈ [(Instr.brclr op mask rel, false), (.brset op mask rel, true)],
      ∃ t, exec p.1 s = .next t ∧
        ((∀ k < 8, mask.getLsbD k = true → m.getLsbD k = p.2) →
          t.pc = BitVec.ofInt 16 (s.pc.toNat + rel.toInt) ∧ t.stale = []) ∧
        (¬ (∀ k < 8, mask.getLsbD k = true → m.getLsbD k = p.2) → t.pc = s.pc ∧ t.stale = s.stale) ∧
        t.regs = s1.regs ∧ s.modeOnly s1 (DirExtIdx.autoTarget op) ∧ t.ccr = s.ccr ∧ t.special = s.special ∧
        s.bytesKept t [] ∧ t.pageStored = s.pageStored

/-- R522 to R529. The loop primitives: the counter, 8 or 16 bits, goes down by one, up by one or stays; the branch is
taken on a counter that is zero, or that is not, and then the queue is refilled (R86, D7; log 13); no flag changes. -/
def Obligations.LoopPrimitives : Prop :=
  ∀ (s : State) (r : LoopReg) (off : BitVec 9),
    let counted : Int → State × Prop := fun k =>
      match r with
      | .a => (s.setA (BitVec.ofInt 8 (s.a.toInt + k)), ((s.a.toNat : Int) + k) % 256 = 0)
      | .b => (s.setB (BitVec.ofInt 8 (s.b.toInt + k)), ((s.b.toNat : Int) + k) % 256 = 0)
      | .d => (s.setD (BitVec.ofInt 16 (s.d.toInt + k)), ((s.d.toNat : Int) + k) % 65536 = 0)
      | .x => (s.setX (BitVec.ofInt 16 (s.x.toInt + k)), ((s.x.toNat : Int) + k) % 65536 = 0)
      | .y => (s.setY (BitVec.ofInt 16 (s.y.toInt + k)), ((s.y.toNat : Int) + k) % 65536 = 0)
      | .sp => (s.setSp (BitVec.ofInt 16 (s.sp.toInt + k)), ((s.sp.toNat : Int) + k) % 65536 = 0)
    ∀ p ∈ [(Instr.dbeq r off, (-1 : Int), true), (.dbne r off, -1, false), (.tbeq r off, 0, true), (.tbne r off, 0, false),
        (.ibeq r off, 1, true), (.ibne r off, 1, false)],
      ∃ t, exec p.1 s = .next t ∧ t.regs = (counted p.2.1).1.regs ∧ t.ccr = s.ccr ∧ t.special = s.special ∧
        s.bytesKept t [] ∧
        t.pageStored = s.pageStored ∧
        (((counted p.2.1).2 ↔ p.2.2 = true) → t.pc = BitVec.ofInt 16 (s.pc.toNat + off.toInt) ∧ t.stale = []) ∧
        (¬ ((counted p.2.1).2 ↔ p.2.2 = true) → t.pc = s.pc ∧ t.stale = s.stale)

/-! ## Jumps, subroutines, the stack (47_jump_call_interrupt.md; 48_stack_index_ccr_misc.md) -/

/-- R531 to R534. JMP goes to the effective address. BSR and JSR push the address of the next instruction, below the SP
the operand's mode leaves, and go; the address is found before the push. RTS pulls the PC. No flag and no other register
changes; the queue is refilled (R86, D7), which the model's mark of queued bytes shows (log 13). Their encodings, every
operand. -/
def Obligations.JumpsAndSubroutines : Prop :=
  (∀ (v : Version) (rest : List Byte),
    (∀ hh ll, decode v (0x06 :: hh :: ll :: rest) = .ok (.jmp (.ext (hh ++ ll)), rest) ∧
      decode v (0x16 :: hh :: ll :: rest) = .ok (.jsr (.ext (hh ++ ll)), rest)) ∧
    (∀ xb : Indexed, decode v (0x05 :: xb.bytes ++ rest) = .ok (.jmp (.idx xb), rest) ∧
      decode v (0x15 :: xb.bytes ++ rest) = .ok (.jsr (.idx xb), rest)) ∧
    (∀ n, decode v (0x07 :: n :: rest) = .ok (.bsr n, rest) ∧ decode v (0x17 :: n :: rest) = .ok (.jsr (.dir n), rest)) ∧
    decode v (0x3D :: rest) = .ok (.rts, rest)) ∧
  ∀ s : State,
    (∀ op : ExtIdx, let s1 := (s.eaExtIdx op).2
      ∃ t, exec (.jmp op) s = .next t ∧ t.pc = (s.eaExtIdx op).1 ∧ s.modeOnly s1 (ExtIdx.autoTarget op) ∧
        t.regs = s1.regs ∧ t.ccr = s.ccr ∧ t.special = s.special ∧ s.bytesKept t [] ∧ t.stale = []) ∧
    (∀ rel : Byte, ∃ t, exec (.bsr rel) s = .next t ∧ t.pc = BitVec.ofInt 16 (s.pc.toNat + rel.toInt) ∧
      t.regs = (s.setSp (s.sp - 2)).regs ∧ t.ccr = s.ccr ∧ t.special = s.special ∧ s.storedWord t (s.sp - 2) s.pc ∧
      s.bytesKept t (s.wordLocs (s.sp - 2) s.pc) ∧ t.stale = []) ∧
    (∀ op : DirExtIdx, let s1 := (s.ea op).2
      ∃ t, exec (.jsr op) s = .next t ∧ t.pc = (s.ea op).1 ∧ s.modeOnly s1 (DirExtIdx.autoTarget op) ∧
        t.regs = (s1.setSp (s1.sp - 2)).regs ∧ t.ccr = s.ccr ∧ t.special = s.special ∧
        s1.storedWord t (s1.sp - 2) s.pc ∧ s.bytesKept t (s1.wordLocs (s1.sp - 2) s.pc) ∧ t.stale = []) ∧
    ∃ t, exec .rts s = .next t ∧ t.pc = s.read16 s.sp ∧ t.regs = (s.setSp (s.sp + 2)).regs ∧ t.ccr = s.ccr ∧
      t.special = s.special ∧ s.bytesKept t [] ∧ t.stale = []

/-- R535 to R540, R68. CALL: target and page from the instruction, or from three bytes in memory for the indirect forms;
return address and old PPAGE are stacked, PPAGE and PC take the new values. RTC pulls PPAGE, then the PC. The queue is
refilled (R86, D7; log 13). The model's choices in it: three bytes are stacked on every device, expanded or not (D9; log
30), and a CALL with its stack in the program window, which the spec says to refuse (U17), is answered (log 12): of the
stacking the statement says what it does in plain memory. That RTC reads the PC under the page it has just pulled is
what the model deduces (log 30). -/
def Obligations.CallAndReturn : Prop :=
  (∀ (s : State) (op : CallOp),
    let target : Word × Byte × State := match op with
      | .ext a pg => (a, pg, s)
      | .idx xb pg => ((s.indexed xb).1, pg, (s.indexed xb).2)
      | .ind (.ind16 r n) => (s.read16 (s.base s.pc r + n), s.read8 (s.base s.pc r + n + 2), s)
      | .ind (.indD r) => (s.read16 (s.base s.pc r + s.d), s.read8 (s.base s.pc r + s.d + 2), s)
      | .ind xb => (s.read16 (s.indexed xb).1, s.read8 ((s.indexed xb).1 + 2), (s.indexed xb).2)
    let s1 := target.2.2
    ∃ t, exec (.call op) s = .next t ∧ t.pc = target.1 ∧ (t.a, t.b, t.x, t.y) = (s1.a, s1.b, s1.x, s1.y) ∧
      t.sp = s1.sp - 3 ∧ t.ccr = s.ccr ∧ t.special = s.special ∧ t.stale = [] ∧
      (s1.plain (s1.sp - 3) 3 → t.ppage = target.2.1 ∧ t.read16 (s1.sp - 2) = s.pc ∧ t.read8 (s1.sp - 3) = s.ppage ∧
        s.bytesKept t (.ppage :: s1.locsFrom (s1.sp - 3) 3))) ∧
  ∀ s : State, ∃ t, exec .rtc s = .next t ∧ t.ppage = s.read8 s.sp ∧
    t.pc = (s.setPpage (s.read8 s.sp)).read16 (s.sp + 1) ∧ t.regs = (s.setSp (s.sp + 3)).regs ∧ t.ccr = s.ccr ∧
    t.special = s.special ∧ s.bytesKept t [.ppage] ∧ t.stale = []

/-- R532 to R540 together. A subroutine that leaves the stack alone comes back: RTS after BSR or JSR, every operand, and
RTC after CALL, every operand, to the next instruction, with the registers the call's addressing mode left and, for
CALL, the PPAGE of before, wherever the subroutine's PC is by then, if the stack lies in plain memory. That CALL and RTC
stack and pull three bytes on every device is decision D9, the model's choice (log 30). -/
def Obligations.SubroutinesReturn : Prop :=
  ∀ (s t : State) (pc : Word),
    let comesBack : State → Instr → Instr → Nat → Prop := fun s1 call back n =>
      s1.plain (s1.sp - BitVec.ofNat 16 n) n → exec call s = .next t →
      ∃ r, exec back (t.setPc pc) = .next r ∧ r.pc = s.pc ∧ r.regs = s1.regs ∧ r.ccr = s.ccr ∧ r.ppage = s.ppage
    (∀ rel, comesBack s (.bsr rel) .rts 2) ∧
    (∀ op : DirExtIdx, comesBack (s.ea op).2 (.jsr op) .rts 2) ∧
    (∀ a pg, comesBack s (.call (.ext a pg)) .rtc 3) ∧
    (∀ xb pg, comesBack (s.indexed xb).2 (.call (.idx xb pg)) .rtc 3) ∧
    ∀ xb, comesBack (s.indexed xb).2 (.call (.ind xb)) .rtc 3

/-- R560 to R576, R70. The pushes store at the SP less one or two, the high byte of a word lower, and leave the SP
there; the pulls take from the SP and move it up. PSHC and PSHCW stack CCR and CCRW, the bits of CCRH that do not exist
as 0, which is decision D20, the model's choice (log 21); PULC and PULCW are writes of them, under the rules of such a
write. Their encodings, but for the two of CPU12X. That a PULC or PULCW which clears I inhibits is decision D26, the
model's choice (log 25). -/
def Obligations.PushesAndPulls : Prop :=
  (∀ (v : Version) (rest : List Byte),
    ∀ p ∈ [(0x36#8, Instr.psha), (0x37, .pshb), (0x39, .pshc), (0x3B, .pshd), (0x34, .pshx), (0x35, .pshy), (0x32, .pula),
        (0x33, .pulb), (0x38, .pulc), (0x3A, .puld), (0x30, .pulx), (0x31, .puly)],
      decode v (p.1 :: rest) = .ok (p.2, rest)) ∧
  ∀ s : State,
    (∀ p ∈ [(Instr.psha, s.a), (.pshb, s.b), (.pshc, s.ccr.toByte)],
      ∃ t, exec p.1 s = .next t ∧ t.regs = (s.setSp (s.sp - 1)).regs ∧ t.ccr = s.ccr ∧ t.pc = s.pc ∧
        t.special = s.special ∧ s.storedByte t (s.sp - 1) p.2 ∧ s.bytesKept t [s.locate (s.sp - 1)] ∧
        s.marked t [s.locate (s.sp - 1)]) ∧
    (∀ p ∈ [(Instr.pshd, joinBytes s.a s.b), (.pshx, s.x), (.pshy, s.y),
        (.pshcw, joinBytes s.ccrh.toByte s.ccr.toByte)],
      ∃ t, exec p.1 s = .next t ∧ t.regs = (s.setSp (s.sp - 2)).regs ∧ t.ccr = s.ccr ∧ t.pc = s.pc ∧
        t.special = s.special ∧ s.storedWord t (s.sp - 2) p.2 ∧ s.bytesKept t (s.wordLocs (s.sp - 2) p.2) ∧
        s.marked t (s.wordLocs (s.sp - 2) p.2)) ∧
    (∀ p ∈ [(Instr.pula, (s.setSp (s.sp + 1)).setA (s.read8 s.sp)), (.pulb, (s.setSp (s.sp + 1)).setB (s.read8 s.sp)),
        (.puld, (s.setSp (s.sp + 2)).setD (s.read16 s.sp)), (.pulx, (s.setSp (s.sp + 2)).setX (s.read16 s.sp)),
        (.puly, (s.setSp (s.sp + 2)).setY (s.read16 s.sp))],
      ∃ t, exec p.1 s = .next t ∧ t.regs = p.2.regs ∧ t.ccr = s.ccr ∧ s.still t) ∧
    exec .pulc s = .next ((s.writeCcr (s.read8 s.sp)).setSp (s.sp + 1)) ∧
    exec .pulcw s = .next ((s.writeCcrw (s.read16 s.sp)).setSp (s.sp + 2))

/-! ## Exceptions and the return from them (60_exceptions.md; 47_jump_call_interrupt.md) -/

/-- R543 to R547, R621, R622, R628 to R630, R640 to R643. SWI enters through $FFF6, SYS, where the version has it,
through $FF12, TRAP through $FFF8, as does SYS where the version has it not: the frame with the address of the next
instruction is stacked, I is set, U cleared, X and IPL stay, and the PC comes from the vector, which is read before the
stacking. The model's choices in it: the vector base moves every vector of these on CPU12X and none on CPU12 (D13; log
23); the bits of CCRH that do not exist are stacked as 0 (D20; log 21). -/
def Obligations.SoftwareExceptions : Prop :=
  ∀ s : State,
    (∃ t, exec .swi s = .next t ∧ s.entered t 0xF6 s.pc s.ccr.x s.ccrh.ipl) ∧
    (∃ t, exec .sys s = .next t ∧ s.entered t (if s.cfg.version.hasSYS then 0x12 else 0xF8) s.pc s.ccr.x s.ccrh.ipl) ∧
    ∀ tn, ∃ t, exec (.trap tn) s = .next t ∧ s.entered t 0xF8 s.pc s.ccr.x s.ccrh.ipl

/-- R541, R200, R201, R692. RTI pulls CCR or CCRW, B, A, X, Y and the PC, upwards, the CCR and CCRH under the rules of a
write; the inhibit of a cleared I does not apply; the queue is refilled (R86, D7; log 13). That the inhibit leaves RTI
out is part of decision D26, the model's choice (log 25). -/
def Obligations.ReturnFromInterrupt : Prop :=
  ∀ s : State,
    let isX := s.cfg.version.isX
    let up : Word := if isX then s.sp + 2 else s.sp + 1
    let w := if isX then s.writeCcrw (s.read16 s.sp) else s.writeCcr (s.read8 s.sp)
    ∃ t, exec .rti s = .next t ∧ t.ccr = w.ccr ∧ t.ccrh = w.ccrh ∧
      (t.b, t.a, t.x, t.y, t.pc) =
        (s.read8 up, s.read8 (up + 1), s.read16 (up + 2), s.read16 (up + 4), s.read16 (up + 6)) ∧
      t.sp = up + 8 ∧ t.special = (((s.setCcrh w.ccrh).setIDelay false).setRtiFrame true).special ∧ s.bytesKept t [] ∧
      t.stale = []

/-- R541 with R621, R622, R640 to R643, R478. RTI undoes an entry: from the state any software exception or hardware
request leaves, whatever of the registers the handler has changed but the SP, RTI gives back PC, registers, CCR and CCRH
of before, if the frame lies in plain memory and nothing has stored into it; CPU12 has no CCRH to give back. After an
entry inside a WAV, RTI and then `3C` leave the registers, the PC and the sums that `3C` would have left with no entry,
if the pending pair reads as before; that it resumes so is decision D23, the model's choice (log 19). -/
def Obligations.ReturnUndoesEntry : Prop :=
  let returns : State → State → State → Nat → Byte → EntryKind → Prop := fun s s0 u n vec kind =>
    let t := s0.enter vec s0.pc kind
    s.Inv ∧ s.plain (s.sp - BitVec.ofNat 16 n) n ∧ u.cfg = t.cfg ∧ u.sp = t.sp ∧ u.ccrh.u = t.ccrh.u ∧
      (s.ccr.x = true → u.ccr.x = true) ∧ ∀ l ∈ s.locsFrom (s.sp - BitVec.ofNat 16 n) n, u.peek l = t.peek l
  (∀ (s u : State) (vec : Byte) (kind : EntryKind), returns s s u s.frameSize vec kind →
    ∃ r, exec .rti u = .next r ∧ r.pc = s.pc ∧ r.regs = s.regs ∧ r.ccr = s.ccr ∧
      (s.cfg.version.isX = true → r.ccrh = s.ccrh)) ∧
  ∀ (s u : State) (vec : Byte) (kind : EntryKind) (w : WavSums) (next : Word), s.wav = some w →
    returns s (s.withSumsStacked w) u (s.frameSize + 6) vec kind → s.cfg.version.hasFuzzy = true → u.wav = none →
    u.read8 s.x = s.read8 s.x → u.read8 s.y = s.read8 s.y →
    ∃ r p q, exec .rti u = .next r ∧ r.pc = s.pc ∧ exec .wavr (r.setPc next) = .next p ∧
      exec .wavr (s.setPc next) = .next q ∧ p.pc = q.pc ∧ p.regs = q.regs ∧ p.wav = q.wav

/-- R595, R598, R599, R548, D16. WAI in user state, STOP in user state or with S set, and BGND with BDM disabled go on
with the next instruction; else WAI and STOP stack the frame and wait or stop, and BGND, with nothing stacked, stops at
the next instruction. The two outcomes of BGND and the run state it enters are decision D16, the model's choice (log
32). -/
def Obligations.WaitStopBackground : Prop :=
  ∀ s : State,
    let n := s.frameSize
    let top := s.sp - BitVec.ofNat 16 n
    let halts : Instr → RunState → Prop := fun i run => ∃ t, exec i s = .next t ∧ t.pc = s.pc ∧
      (t.a, t.b, t.x, t.y) = (s.a, s.b, s.x, s.y) ∧ t.ccr = s.ccr ∧ t.special = (s.setRun run).special ∧ t.sp = top ∧
      (s.plain top n → s.holdsFrame t top s.pc ∧ s.bytesKept t (s.locsFrom top n))
    (s.userState = true → exec .wai s = .next s) ∧ (s.userState = false → halts .wai .waiting) ∧
    (s.ccr.s = true ∨ s.userState = true → exec .stop s = .next s) ∧
    (s.ccr.s = false → s.userState = false → halts .stop .stopped) ∧
    (s.cfg.bdmEnabled = false → exec .bgnd s = .next s) ∧
    (s.cfg.bdmEnabled = true → exec .bgnd s = .next (s.setRun .bdm))

/-- R625, R626, R642. What is recognised at a boundary: an access error before all; else XIRQ when X is clear; else,
with I clear and no inhibit, the pending request above the current level that comes first: on CPU12X the highest level,
then the highest vector, on CPU12 the highest vector. With nothing to recognise nothing is. The access error before XIRQ
(D27) and, on CPU12, the vector address alone (U18) are the model's choice (log 26). -/
def Obligations.RecognisedRequests : Prop :=
  ∀ (s : State) (env : Env),
    let isX := s.cfg.version.isX
    let above : Irq → Prop := fun q => q ∈ env.irqs ∧ (isX = true → s.ccrh.ipl.toNat < q.level.toNat)
    let masked := s.ccr.i = true ∨ s.iDelay = true
    (∀ vec, env.nmi = some vec → s.recognised env = some { vec := vec, kind := .nmi env.nmiLevel }) ∧
    (env.nmi = none → env.xirq = true → s.ccr.x = false →
      s.recognised env = some { vec := 0xF4, kind := .xirq env.xirqLevel }) ∧
    (env.nmi = none → (env.xirq = false ∨ s.ccr.x = true) → (masked ∨ ¬ ∃ q, above q) → s.recognised env = none) ∧
    (env.nmi = none → (env.xirq = false ∨ s.ccr.x = true) → ¬ masked → (∃ q, above q) →
      ∃ r, above r ∧ s.recognised env = some { vec := r.vec, kind := .irq r.level } ∧
        ∀ q, above q →
          if isX = true then q.level.toNat < r.level.toNat ∨ (q.level = r.level ∧ q.vec.toNat ≤ r.vec.toNat)
          else q.vec.toNat ≤ r.vec.toNat)

/-- R478, R542, R621 to R623, R640 to R643, R651. A request recognised while the CPU runs is entered in one step, and no
instruction runs: the frame with the address of the next instruction is stacked; inside a WAV the three words of its
sums lie above it, B counted down; right after RTI the frame just pulled serves again and nothing is stored. XIRQ sets
X; on CPU12X IPL takes the request's level. The level of an XIRQ or an access error (D28; log 26), the sums on the stack
(D23; log 19), and the frame used again as a step after the RTI's (log 28) are the model's choice. So are the base of
the vectors (D13; log 23) and the bits of CCRH stacked as 0 (D20; log 21). -/
def Obligations.InterruptEntry : Prop :=
  ∀ (s : State) (r : Request), s.env.reset = none → s.run = .running → s.begin.recognised s.env = some r →
    let x := entryX s.ccr.x r.kind
    let ipl := entryIpl s.cfg.version.isX s.ccrh.ipl r.kind
    let s0 := s.begin.setRtiFrame false
    ∃ t, step s = .next t ∧
      (s.rtiFrame = false → s.wav = none → s0.entered t r.vec s.pc x ipl) ∧
      (s.rtiFrame = false → ∀ w, s.wav = some w → (s0.withSumsStacked w).entered t r.vec s.pc x ipl) ∧
      (s.rtiFrame = true → s0.vectored t r.vec x ipl ∧ t.sp = s.sp - BitVec.ofNat 16 s.frameSize ∧
        s.begin.bytesKept t [])

/-- R598, R599, R647, R640 to R643, R651. Waiting or stopped, with no reset: a recognised request is entered with the
frame already on the stack and nothing stored: the PC from its vector, I set, X set by XIRQ, IPL from the request on
CPU12X, U cleared, every other flag and register kept; XIRQ with X set drops the frame and goes on with the next
instruction; else the CPU stays as it is. That a masked I-maskable request does not end the wait (D15; log 24) and the
level of an XIRQ or an access error (D28; log 26) are the model's choice. So is the base of the vectors (D13; log 23).
-/
def Obligations.WakeFromWaitAndStop : Prop :=
  ∀ s : State, s.env.reset = none → s.run = .waiting ∨ s.run = .stopped →
    (∀ r, s.begin.recognised s.env = some r → ∃ t, step s = .next t ∧
      s.begin.vectored t r.vec (entryX s.ccr.x r.kind) (entryIpl s.cfg.version.isX s.ccrh.ipl r.kind) ∧
      t.sp = s.sp ∧ s.begin.bytesKept t []) ∧
    (s.begin.recognised s.env = none →
      step s = .next (if s.env.xirq && s.ccr.x then
        (s.begin.setSp (s.sp + BitVec.ofNat 16 s.frameSize)).setRun .running else s.begin))

/-- R680 to R683, R46, R47, R651. A reset comes before everything else, in every run state: S, X and I are set, U and
IPL cleared, the PC comes from the vector of the kind of reset in page $FF, nothing is stacked and memory stays, the CPU
runs, with nothing in progress and nothing queued; what the spec leaves open is unconstrained, but for the registers of
the memory controller and the interrupt module. The state right after power-on is such a state, its PC the word at
$FFFE. The model's choices in it: memory stays (D31; log 31); the vectors are in page $FF whatever the vector base (D13;
log 23); the reset falls at a step boundary (D29; log 31); those registers take the parameters (D13; log 7), and before
the vector is fetched, which the model deduces (log 7). -/
def Obligations.ResetSequence : Prop :=
  (∀ (s : State) (kind : ResetKind), s.env.reset = some kind →
    ∃ t, step s = .next t ∧ t.ccr = { t.ccr with s := true, x := true, i := true } ∧
      t.ccrh = { u := false, ipl := 0 } ∧
      t.pc = { s.begin with
        ppage := s.cfg.ppage0, gpage := s.cfg.gpage0, direct := s.cfg.direct0, vectorBase := s.cfg.vectorBase0 }.read16
          (match kind with
        | .powerOn => 0xFFFE
        | .clockMonitor => 0xFFFC
        | .cop => 0xFFFA) ∧
      t.mem = s.mem ∧ t.run = .running ∧ t.iDelay = false ∧ t.wav = none ∧ t.stale = [] ∧ t.rtiFrame = false ∧
      t.pageStored = false ∧
      (t.ppage, t.gpage, t.direct, t.vectorBase) = (s.cfg.ppage0, s.cfg.gpage0, s.cfg.direct0, s.cfg.vectorBase0)) ∧
  State.reset.ccr = { State.reset.ccr with s := true, x := true, i := true } ∧ State.reset.ccrh = { u := false, ipl := 0 } ∧
    State.reset.iDelay = false ∧ State.reset.run = .running ∧ State.reset.wav = none ∧ State.reset.stale = [] ∧
    State.reset.rtiFrame = false ∧ State.reset.pageStored = false ∧ State.reset.pc = State.reset.read16 0xFFFE

end
end

