-- ==== Sys2Proof/Laws/Memory.lean ====
section
/-!
SUPPORT. Memory as a list of cells: what a byte reads as after a write, and that every operation keeps the canonical
form, in which equal contents are equal lists.
-/

namespace Sys2Proof.Machine

/-- An erased key reads as an unlisted one. -/
theorem Mem.get_erase_same (m : Mem) (k : Nat) : (m.erase k).get k = Mem.unlisted := by
  induction m with
  | nil => rfl
  | cons c m ih =>
    unfold Mem.erase at *
    by_cases h : c.1 = k
    · simpa [List.filter_cons, h] using ih
    · simpa [List.filter_cons, h, Mem.get] using ih

/-- Erasing a key leaves the others. -/
theorem Mem.get_erase_other (m : Mem) {k j : Nat} (h : j ≠ k) : (m.erase k).get j = m.get j := by
  induction m with
  | nil => rfl
  | cons c m ih =>
    unfold Mem.erase at *
    by_cases hk : c.1 = k
    · have : c.1 ≠ j := fun e => h (e ▸ hk)
      simpa [List.filter_cons, hk, Mem.get, this, Ne.symm h] using ih
    · by_cases hj : c.1 = j <;> simp_all [List.filter_cons, Mem.get]

/-- An inserted key reads as its value where it was not listed. -/
theorem Mem.get_insert_same (m : Mem) (k : Nat) (v : Byte) (h : ∀ c ∈ m, c.1 ≠ k) : (Mem.insert k v m).get k = v := by
  induction m with
  | nil => simp [Mem.insert, Mem.get]
  | cons c m ih =>
    unfold Mem.insert
    split
    · simp [Mem.get]
    · have hc := h c (by simp)
      simpa [Mem.get, hc] using ih fun d hd => h d (by simp [hd])

/-- Inserting a key leaves the others. -/
theorem Mem.get_insert_other (m : Mem) {k j : Nat} (v : Byte) (h : j ≠ k) : (Mem.insert k v m).get j = m.get j := by
  induction m with
  | nil => simp [Mem.insert, Mem.get, Ne.symm h]
  | cons c m ih =>
    unfold Mem.insert
    split
    · simp [Mem.get, Ne.symm h]
    · simp only [Mem.get]
      split
      · rfl
      · exact ih

/-- No cell of an erased memory has the key. -/
theorem Mem.erase_absent (m : Mem) (k : Nat) : ∀ c ∈ m.erase k, c.1 ≠ k := by
  intro c hc
  simpa using (List.mem_filter.mp hc).2

/-- A byte reads as it was written. -/
@[simp] theorem Mem.get_set_same (m : Mem) (k : Nat) (v : Byte) : (m.set k v).get k = v := by
  unfold Mem.set
  split
  · next h => rw [Mem.get_erase_same, h]
  · exact Mem.get_insert_same _ _ _ (Mem.erase_absent m k)

/-- A write leaves every other byte. -/
theorem Mem.get_set_other (m : Mem) {k j : Nat} (v : Byte) (h : j ≠ k) : (m.set k v).get j = m.get j := by
  unfold Mem.set
  split
  · exact Mem.get_erase_other m h
  · rw [Mem.get_insert_other _ _ h, Mem.get_erase_other m h]

/-- The two parts of the canonical form. -/
theorem Mem.wf_iff (m : Mem) :
    m.wf = true ↔ m.Pairwise (fun c d => c.1 < d.1) ∧ ∀ c ∈ m, c.2 ≠ Mem.unlisted := by
  simp [Mem.wf]

/-- Erasing keeps the canonical form. -/
theorem Mem.wf_erase {m : Mem} (k : Nat) (h : m.wf = true) : (m.erase k).wf = true := by
  rw [Mem.wf_iff] at *
  exact ⟨h.1.filter _, fun c hc => h.2 c (List.mem_filter.mp hc).1⟩

/-- The cells of a memory with an entry put in. -/
theorem Mem.mem_insert {m : Mem} {k : Nat} {v : Byte} {c : Host.Cell} (h : c ∈ Mem.insert k v m) :
    c = (k, v) ∨ c ∈ m := by
  induction m with
  | nil => simpa [Mem.insert] using h
  | cons d m ih =>
    unfold Mem.insert at h
    split at h
    · simpa using h
    · rcases List.mem_cons.mp h with h | h
      · simp [h]
      · rcases ih h with h | h <;> simp [h]

/-- Putting in an entry keeps the canonical form where the key was not listed. -/
theorem Mem.wf_insert {m : Mem} {k : Nat} {v : Byte} (h : m.wf = true) (ha : ∀ c ∈ m, c.1 ≠ k)
    (hv : v ≠ Mem.unlisted) : (Mem.insert k v m).wf = true := by
  rw [Mem.wf_iff] at *
  refine ⟨?_, fun c hc => ?_⟩
  · induction m with
    | nil => simp [Mem.insert]
    | cons d m ih =>
      have hp := List.pairwise_cons.mp h.1
      unfold Mem.insert
      split
      · next hk =>
        refine List.pairwise_cons.mpr ⟨fun c hc => ?_, h.1⟩
        rcases List.mem_cons.mp hc with rfl | hc
        · exact hk
        · exact Nat.lt_trans hk (hp.1 c hc)
      · next hk =>
        have hd := ha d (by simp)
        refine List.pairwise_cons.mpr ⟨fun c hc => ?_, ih ⟨hp.2, fun c hc => h.2 c (by simp [hc])⟩
          fun c hc => ha c (by simp [hc])⟩
        rcases Mem.mem_insert hc with rfl | hc
        · simp only; omega
        · exact hp.1 c hc
  · rcases Mem.mem_insert hc with rfl | hc
    · exact hv
    · exact h.2 c hc

/-- A write keeps the canonical form. -/
theorem Mem.wf_set {m : Mem} (k : Nat) (v : Byte) (h : m.wf = true) : (m.set k v).wf = true := by
  unfold Mem.set
  split
  · exact Mem.wf_erase k h
  · next hv => exact Mem.wf_insert (Mem.wf_erase k h) (Mem.erase_absent m k) hv

/-- The empty memory is in canonical form. -/
theorem Mem.wf_nil : Mem.wf [] = true := rfl

end Sys2Proof.Machine
end

