-- ==== Sys2Proof/Laws/State.lean ====
section
/-!
SUPPORT. What each named update of the state does to each field: one lemma per field per update.
-/

namespace Sys2Proof.Machine

@[simp] theorem State.setA_cfg (s : State) (v : Byte) : (s.setA v).cfg = s.cfg := rfl
@[simp] theorem State.setA_a (s : State) (v : Byte) : (s.setA v).a = v := rfl
@[simp] theorem State.setA_b (s : State) (v : Byte) : (s.setA v).b = s.b := rfl
@[simp] theorem State.setA_x (s : State) (v : Byte) : (s.setA v).x = s.x := rfl
@[simp] theorem State.setA_y (s : State) (v : Byte) : (s.setA v).y = s.y := rfl
@[simp] theorem State.setA_sp (s : State) (v : Byte) : (s.setA v).sp = s.sp := rfl
@[simp] theorem State.setA_pc (s : State) (v : Byte) : (s.setA v).pc = s.pc := rfl
@[simp] theorem State.setA_ccr (s : State) (v : Byte) : (s.setA v).ccr = s.ccr := rfl
@[simp] theorem State.setA_ccrh (s : State) (v : Byte) : (s.setA v).ccrh = s.ccrh := rfl
@[simp] theorem State.setA_tmp1 (s : State) (v : Byte) : (s.setA v).tmp1 = s.tmp1 := rfl
@[simp] theorem State.setA_tmp2 (s : State) (v : Byte) : (s.setA v).tmp2 = s.tmp2 := rfl
@[simp] theorem State.setA_tmp3 (s : State) (v : Byte) : (s.setA v).tmp3 = s.tmp3 := rfl
@[simp] theorem State.setA_ppage (s : State) (v : Byte) : (s.setA v).ppage = s.ppage := rfl
@[simp] theorem State.setA_gpage (s : State) (v : Byte) : (s.setA v).gpage = s.gpage := rfl
@[simp] theorem State.setA_direct (s : State) (v : Byte) : (s.setA v).direct = s.direct := rfl
@[simp] theorem State.setA_vectorBase (s : State) (v : Byte) : (s.setA v).vectorBase = s.vectorBase := rfl
@[simp] theorem State.setA_run (s : State) (v : Byte) : (s.setA v).run = s.run := rfl
@[simp] theorem State.setA_iDelay (s : State) (v : Byte) : (s.setA v).iDelay = s.iDelay := rfl
@[simp] theorem State.setA_wav (s : State) (v : Byte) : (s.setA v).wav = s.wav := rfl
@[simp] theorem State.setA_mem (s : State) (v : Byte) : (s.setA v).mem = s.mem := rfl
@[simp] theorem State.setA_inputs (s : State) (v : Byte) : (s.setA v).inputs = s.inputs := rfl
@[simp] theorem State.setA_tick (s : State) (v : Byte) : (s.setA v).tick = s.tick := rfl
@[simp] theorem State.setA_stale (s : State) (v : Byte) : (s.setA v).stale = s.stale := rfl
@[simp] theorem State.setA_pageStored (s : State) (v : Byte) : (s.setA v).pageStored = s.pageStored := rfl
@[simp] theorem State.setA_rtiFrame (s : State) (v : Byte) : (s.setA v).rtiFrame = s.rtiFrame := rfl

@[simp] theorem State.setB_cfg (s : State) (v : Byte) : (s.setB v).cfg = s.cfg := rfl
@[simp] theorem State.setB_a (s : State) (v : Byte) : (s.setB v).a = s.a := rfl
@[simp] theorem State.setB_b (s : State) (v : Byte) : (s.setB v).b = v := rfl
@[simp] theorem State.setB_x (s : State) (v : Byte) : (s.setB v).x = s.x := rfl
@[simp] theorem State.setB_y (s : State) (v : Byte) : (s.setB v).y = s.y := rfl
@[simp] theorem State.setB_sp (s : State) (v : Byte) : (s.setB v).sp = s.sp := rfl
@[simp] theorem State.setB_pc (s : State) (v : Byte) : (s.setB v).pc = s.pc := rfl
@[simp] theorem State.setB_ccr (s : State) (v : Byte) : (s.setB v).ccr = s.ccr := rfl
@[simp] theorem State.setB_ccrh (s : State) (v : Byte) : (s.setB v).ccrh = s.ccrh := rfl
@[simp] theorem State.setB_tmp1 (s : State) (v : Byte) : (s.setB v).tmp1 = s.tmp1 := rfl
@[simp] theorem State.setB_tmp2 (s : State) (v : Byte) : (s.setB v).tmp2 = s.tmp2 := rfl
@[simp] theorem State.setB_tmp3 (s : State) (v : Byte) : (s.setB v).tmp3 = s.tmp3 := rfl
@[simp] theorem State.setB_ppage (s : State) (v : Byte) : (s.setB v).ppage = s.ppage := rfl
@[simp] theorem State.setB_gpage (s : State) (v : Byte) : (s.setB v).gpage = s.gpage := rfl
@[simp] theorem State.setB_direct (s : State) (v : Byte) : (s.setB v).direct = s.direct := rfl
@[simp] theorem State.setB_vectorBase (s : State) (v : Byte) : (s.setB v).vectorBase = s.vectorBase := rfl
@[simp] theorem State.setB_run (s : State) (v : Byte) : (s.setB v).run = s.run := rfl
@[simp] theorem State.setB_iDelay (s : State) (v : Byte) : (s.setB v).iDelay = s.iDelay := rfl
@[simp] theorem State.setB_wav (s : State) (v : Byte) : (s.setB v).wav = s.wav := rfl
@[simp] theorem State.setB_mem (s : State) (v : Byte) : (s.setB v).mem = s.mem := rfl
@[simp] theorem State.setB_inputs (s : State) (v : Byte) : (s.setB v).inputs = s.inputs := rfl
@[simp] theorem State.setB_tick (s : State) (v : Byte) : (s.setB v).tick = s.tick := rfl
@[simp] theorem State.setB_stale (s : State) (v : Byte) : (s.setB v).stale = s.stale := rfl
@[simp] theorem State.setB_pageStored (s : State) (v : Byte) : (s.setB v).pageStored = s.pageStored := rfl
@[simp] theorem State.setB_rtiFrame (s : State) (v : Byte) : (s.setB v).rtiFrame = s.rtiFrame := rfl

@[simp] theorem State.setX_cfg (s : State) (v : Word) : (s.setX v).cfg = s.cfg := rfl
@[simp] theorem State.setX_a (s : State) (v : Word) : (s.setX v).a = s.a := rfl
@[simp] theorem State.setX_b (s : State) (v : Word) : (s.setX v).b = s.b := rfl
@[simp] theorem State.setX_x (s : State) (v : Word) : (s.setX v).x = v := rfl
@[simp] theorem State.setX_y (s : State) (v : Word) : (s.setX v).y = s.y := rfl
@[simp] theorem State.setX_sp (s : State) (v : Word) : (s.setX v).sp = s.sp := rfl
@[simp] theorem State.setX_pc (s : State) (v : Word) : (s.setX v).pc = s.pc := rfl
@[simp] theorem State.setX_ccr (s : State) (v : Word) : (s.setX v).ccr = s.ccr := rfl
@[simp] theorem State.setX_ccrh (s : State) (v : Word) : (s.setX v).ccrh = s.ccrh := rfl
@[simp] theorem State.setX_tmp1 (s : State) (v : Word) : (s.setX v).tmp1 = s.tmp1 := rfl
@[simp] theorem State.setX_tmp2 (s : State) (v : Word) : (s.setX v).tmp2 = s.tmp2 := rfl
@[simp] theorem State.setX_tmp3 (s : State) (v : Word) : (s.setX v).tmp3 = s.tmp3 := rfl
@[simp] theorem State.setX_ppage (s : State) (v : Word) : (s.setX v).ppage = s.ppage := rfl
@[simp] theorem State.setX_gpage (s : State) (v : Word) : (s.setX v).gpage = s.gpage := rfl
@[simp] theorem State.setX_direct (s : State) (v : Word) : (s.setX v).direct = s.direct := rfl
@[simp] theorem State.setX_vectorBase (s : State) (v : Word) : (s.setX v).vectorBase = s.vectorBase := rfl
@[simp] theorem State.setX_run (s : State) (v : Word) : (s.setX v).run = s.run := rfl
@[simp] theorem State.setX_iDelay (s : State) (v : Word) : (s.setX v).iDelay = s.iDelay := rfl
@[simp] theorem State.setX_wav (s : State) (v : Word) : (s.setX v).wav = s.wav := rfl
@[simp] theorem State.setX_mem (s : State) (v : Word) : (s.setX v).mem = s.mem := rfl
@[simp] theorem State.setX_inputs (s : State) (v : Word) : (s.setX v).inputs = s.inputs := rfl
@[simp] theorem State.setX_tick (s : State) (v : Word) : (s.setX v).tick = s.tick := rfl
@[simp] theorem State.setX_stale (s : State) (v : Word) : (s.setX v).stale = s.stale := rfl
@[simp] theorem State.setX_pageStored (s : State) (v : Word) : (s.setX v).pageStored = s.pageStored := rfl
@[simp] theorem State.setX_rtiFrame (s : State) (v : Word) : (s.setX v).rtiFrame = s.rtiFrame := rfl

@[simp] theorem State.setY_cfg (s : State) (v : Word) : (s.setY v).cfg = s.cfg := rfl
@[simp] theorem State.setY_a (s : State) (v : Word) : (s.setY v).a = s.a := rfl
@[simp] theorem State.setY_b (s : State) (v : Word) : (s.setY v).b = s.b := rfl
@[simp] theorem State.setY_x (s : State) (v : Word) : (s.setY v).x = s.x := rfl
@[simp] theorem State.setY_y (s : State) (v : Word) : (s.setY v).y = v := rfl
@[simp] theorem State.setY_sp (s : State) (v : Word) : (s.setY v).sp = s.sp := rfl
@[simp] theorem State.setY_pc (s : State) (v : Word) : (s.setY v).pc = s.pc := rfl
@[simp] theorem State.setY_ccr (s : State) (v : Word) : (s.setY v).ccr = s.ccr := rfl
@[simp] theorem State.setY_ccrh (s : State) (v : Word) : (s.setY v).ccrh = s.ccrh := rfl
@[simp] theorem State.setY_tmp1 (s : State) (v : Word) : (s.setY v).tmp1 = s.tmp1 := rfl
@[simp] theorem State.setY_tmp2 (s : State) (v : Word) : (s.setY v).tmp2 = s.tmp2 := rfl
@[simp] theorem State.setY_tmp3 (s : State) (v : Word) : (s.setY v).tmp3 = s.tmp3 := rfl
@[simp] theorem State.setY_ppage (s : State) (v : Word) : (s.setY v).ppage = s.ppage := rfl
@[simp] theorem State.setY_gpage (s : State) (v : Word) : (s.setY v).gpage = s.gpage := rfl
@[simp] theorem State.setY_direct (s : State) (v : Word) : (s.setY v).direct = s.direct := rfl
@[simp] theorem State.setY_vectorBase (s : State) (v : Word) : (s.setY v).vectorBase = s.vectorBase := rfl
@[simp] theorem State.setY_run (s : State) (v : Word) : (s.setY v).run = s.run := rfl
@[simp] theorem State.setY_iDelay (s : State) (v : Word) : (s.setY v).iDelay = s.iDelay := rfl
@[simp] theorem State.setY_wav (s : State) (v : Word) : (s.setY v).wav = s.wav := rfl
@[simp] theorem State.setY_mem (s : State) (v : Word) : (s.setY v).mem = s.mem := rfl
@[simp] theorem State.setY_inputs (s : State) (v : Word) : (s.setY v).inputs = s.inputs := rfl
@[simp] theorem State.setY_tick (s : State) (v : Word) : (s.setY v).tick = s.tick := rfl
@[simp] theorem State.setY_stale (s : State) (v : Word) : (s.setY v).stale = s.stale := rfl
@[simp] theorem State.setY_pageStored (s : State) (v : Word) : (s.setY v).pageStored = s.pageStored := rfl
@[simp] theorem State.setY_rtiFrame (s : State) (v : Word) : (s.setY v).rtiFrame = s.rtiFrame := rfl

@[simp] theorem State.setSp_cfg (s : State) (v : Word) : (s.setSp v).cfg = s.cfg := rfl
@[simp] theorem State.setSp_a (s : State) (v : Word) : (s.setSp v).a = s.a := rfl
@[simp] theorem State.setSp_b (s : State) (v : Word) : (s.setSp v).b = s.b := rfl
@[simp] theorem State.setSp_x (s : State) (v : Word) : (s.setSp v).x = s.x := rfl
@[simp] theorem State.setSp_y (s : State) (v : Word) : (s.setSp v).y = s.y := rfl
@[simp] theorem State.setSp_sp (s : State) (v : Word) : (s.setSp v).sp = v := rfl
@[simp] theorem State.setSp_pc (s : State) (v : Word) : (s.setSp v).pc = s.pc := rfl
@[simp] theorem State.setSp_ccr (s : State) (v : Word) : (s.setSp v).ccr = s.ccr := rfl
@[simp] theorem State.setSp_ccrh (s : State) (v : Word) : (s.setSp v).ccrh = s.ccrh := rfl
@[simp] theorem State.setSp_tmp1 (s : State) (v : Word) : (s.setSp v).tmp1 = s.tmp1 := rfl
@[simp] theorem State.setSp_tmp2 (s : State) (v : Word) : (s.setSp v).tmp2 = s.tmp2 := rfl
@[simp] theorem State.setSp_tmp3 (s : State) (v : Word) : (s.setSp v).tmp3 = s.tmp3 := rfl
@[simp] theorem State.setSp_ppage (s : State) (v : Word) : (s.setSp v).ppage = s.ppage := rfl
@[simp] theorem State.setSp_gpage (s : State) (v : Word) : (s.setSp v).gpage = s.gpage := rfl
@[simp] theorem State.setSp_direct (s : State) (v : Word) : (s.setSp v).direct = s.direct := rfl
@[simp] theorem State.setSp_vectorBase (s : State) (v : Word) : (s.setSp v).vectorBase = s.vectorBase := rfl
@[simp] theorem State.setSp_run (s : State) (v : Word) : (s.setSp v).run = s.run := rfl
@[simp] theorem State.setSp_iDelay (s : State) (v : Word) : (s.setSp v).iDelay = s.iDelay := rfl
@[simp] theorem State.setSp_wav (s : State) (v : Word) : (s.setSp v).wav = s.wav := rfl
@[simp] theorem State.setSp_mem (s : State) (v : Word) : (s.setSp v).mem = s.mem := rfl
@[simp] theorem State.setSp_inputs (s : State) (v : Word) : (s.setSp v).inputs = s.inputs := rfl
@[simp] theorem State.setSp_tick (s : State) (v : Word) : (s.setSp v).tick = s.tick := rfl
@[simp] theorem State.setSp_stale (s : State) (v : Word) : (s.setSp v).stale = s.stale := rfl
@[simp] theorem State.setSp_pageStored (s : State) (v : Word) : (s.setSp v).pageStored = s.pageStored := rfl
@[simp] theorem State.setSp_rtiFrame (s : State) (v : Word) : (s.setSp v).rtiFrame = s.rtiFrame := rfl

@[simp] theorem State.setPc_cfg (s : State) (v : Word) : (s.setPc v).cfg = s.cfg := rfl
@[simp] theorem State.setPc_a (s : State) (v : Word) : (s.setPc v).a = s.a := rfl
@[simp] theorem State.setPc_b (s : State) (v : Word) : (s.setPc v).b = s.b := rfl
@[simp] theorem State.setPc_x (s : State) (v : Word) : (s.setPc v).x = s.x := rfl
@[simp] theorem State.setPc_y (s : State) (v : Word) : (s.setPc v).y = s.y := rfl
@[simp] theorem State.setPc_sp (s : State) (v : Word) : (s.setPc v).sp = s.sp := rfl
@[simp] theorem State.setPc_pc (s : State) (v : Word) : (s.setPc v).pc = v := rfl
@[simp] theorem State.setPc_ccr (s : State) (v : Word) : (s.setPc v).ccr = s.ccr := rfl
@[simp] theorem State.setPc_ccrh (s : State) (v : Word) : (s.setPc v).ccrh = s.ccrh := rfl
@[simp] theorem State.setPc_tmp1 (s : State) (v : Word) : (s.setPc v).tmp1 = s.tmp1 := rfl
@[simp] theorem State.setPc_tmp2 (s : State) (v : Word) : (s.setPc v).tmp2 = s.tmp2 := rfl
@[simp] theorem State.setPc_tmp3 (s : State) (v : Word) : (s.setPc v).tmp3 = s.tmp3 := rfl
@[simp] theorem State.setPc_ppage (s : State) (v : Word) : (s.setPc v).ppage = s.ppage := rfl
@[simp] theorem State.setPc_gpage (s : State) (v : Word) : (s.setPc v).gpage = s.gpage := rfl
@[simp] theorem State.setPc_direct (s : State) (v : Word) : (s.setPc v).direct = s.direct := rfl
@[simp] theorem State.setPc_vectorBase (s : State) (v : Word) : (s.setPc v).vectorBase = s.vectorBase := rfl
@[simp] theorem State.setPc_run (s : State) (v : Word) : (s.setPc v).run = s.run := rfl
@[simp] theorem State.setPc_iDelay (s : State) (v : Word) : (s.setPc v).iDelay = s.iDelay := rfl
@[simp] theorem State.setPc_wav (s : State) (v : Word) : (s.setPc v).wav = s.wav := rfl
@[simp] theorem State.setPc_mem (s : State) (v : Word) : (s.setPc v).mem = s.mem := rfl
@[simp] theorem State.setPc_inputs (s : State) (v : Word) : (s.setPc v).inputs = s.inputs := rfl
@[simp] theorem State.setPc_tick (s : State) (v : Word) : (s.setPc v).tick = s.tick := rfl
@[simp] theorem State.setPc_stale (s : State) (v : Word) : (s.setPc v).stale = s.stale := rfl
@[simp] theorem State.setPc_pageStored (s : State) (v : Word) : (s.setPc v).pageStored = s.pageStored := rfl
@[simp] theorem State.setPc_rtiFrame (s : State) (v : Word) : (s.setPc v).rtiFrame = s.rtiFrame := rfl

@[simp] theorem State.setCcr_cfg (s : State) (v : Ccr) : (s.setCcr v).cfg = s.cfg := rfl
@[simp] theorem State.setCcr_a (s : State) (v : Ccr) : (s.setCcr v).a = s.a := rfl
@[simp] theorem State.setCcr_b (s : State) (v : Ccr) : (s.setCcr v).b = s.b := rfl
@[simp] theorem State.setCcr_x (s : State) (v : Ccr) : (s.setCcr v).x = s.x := rfl
@[simp] theorem State.setCcr_y (s : State) (v : Ccr) : (s.setCcr v).y = s.y := rfl
@[simp] theorem State.setCcr_sp (s : State) (v : Ccr) : (s.setCcr v).sp = s.sp := rfl
@[simp] theorem State.setCcr_pc (s : State) (v : Ccr) : (s.setCcr v).pc = s.pc := rfl
@[simp] theorem State.setCcr_ccr (s : State) (v : Ccr) : (s.setCcr v).ccr = v := rfl
@[simp] theorem State.setCcr_ccrh (s : State) (v : Ccr) : (s.setCcr v).ccrh = s.ccrh := rfl
@[simp] theorem State.setCcr_tmp1 (s : State) (v : Ccr) : (s.setCcr v).tmp1 = s.tmp1 := rfl
@[simp] theorem State.setCcr_tmp2 (s : State) (v : Ccr) : (s.setCcr v).tmp2 = s.tmp2 := rfl
@[simp] theorem State.setCcr_tmp3 (s : State) (v : Ccr) : (s.setCcr v).tmp3 = s.tmp3 := rfl
@[simp] theorem State.setCcr_ppage (s : State) (v : Ccr) : (s.setCcr v).ppage = s.ppage := rfl
@[simp] theorem State.setCcr_gpage (s : State) (v : Ccr) : (s.setCcr v).gpage = s.gpage := rfl
@[simp] theorem State.setCcr_direct (s : State) (v : Ccr) : (s.setCcr v).direct = s.direct := rfl
@[simp] theorem State.setCcr_vectorBase (s : State) (v : Ccr) : (s.setCcr v).vectorBase = s.vectorBase := rfl
@[simp] theorem State.setCcr_run (s : State) (v : Ccr) : (s.setCcr v).run = s.run := rfl
@[simp] theorem State.setCcr_iDelay (s : State) (v : Ccr) : (s.setCcr v).iDelay = s.iDelay := rfl
@[simp] theorem State.setCcr_wav (s : State) (v : Ccr) : (s.setCcr v).wav = s.wav := rfl
@[simp] theorem State.setCcr_mem (s : State) (v : Ccr) : (s.setCcr v).mem = s.mem := rfl
@[simp] theorem State.setCcr_inputs (s : State) (v : Ccr) : (s.setCcr v).inputs = s.inputs := rfl
@[simp] theorem State.setCcr_tick (s : State) (v : Ccr) : (s.setCcr v).tick = s.tick := rfl
@[simp] theorem State.setCcr_stale (s : State) (v : Ccr) : (s.setCcr v).stale = s.stale := rfl
@[simp] theorem State.setCcr_pageStored (s : State) (v : Ccr) : (s.setCcr v).pageStored = s.pageStored := rfl
@[simp] theorem State.setCcr_rtiFrame (s : State) (v : Ccr) : (s.setCcr v).rtiFrame = s.rtiFrame := rfl

@[simp] theorem State.setCcrh_cfg (s : State) (v : Ccrh) : (s.setCcrh v).cfg = s.cfg := rfl
@[simp] theorem State.setCcrh_a (s : State) (v : Ccrh) : (s.setCcrh v).a = s.a := rfl
@[simp] theorem State.setCcrh_b (s : State) (v : Ccrh) : (s.setCcrh v).b = s.b := rfl
@[simp] theorem State.setCcrh_x (s : State) (v : Ccrh) : (s.setCcrh v).x = s.x := rfl
@[simp] theorem State.setCcrh_y (s : State) (v : Ccrh) : (s.setCcrh v).y = s.y := rfl
@[simp] theorem State.setCcrh_sp (s : State) (v : Ccrh) : (s.setCcrh v).sp = s.sp := rfl
@[simp] theorem State.setCcrh_pc (s : State) (v : Ccrh) : (s.setCcrh v).pc = s.pc := rfl
@[simp] theorem State.setCcrh_ccr (s : State) (v : Ccrh) : (s.setCcrh v).ccr = s.ccr := rfl
@[simp] theorem State.setCcrh_ccrh (s : State) (v : Ccrh) : (s.setCcrh v).ccrh = v := rfl
@[simp] theorem State.setCcrh_tmp1 (s : State) (v : Ccrh) : (s.setCcrh v).tmp1 = s.tmp1 := rfl
@[simp] theorem State.setCcrh_tmp2 (s : State) (v : Ccrh) : (s.setCcrh v).tmp2 = s.tmp2 := rfl
@[simp] theorem State.setCcrh_tmp3 (s : State) (v : Ccrh) : (s.setCcrh v).tmp3 = s.tmp3 := rfl
@[simp] theorem State.setCcrh_ppage (s : State) (v : Ccrh) : (s.setCcrh v).ppage = s.ppage := rfl
@[simp] theorem State.setCcrh_gpage (s : State) (v : Ccrh) : (s.setCcrh v).gpage = s.gpage := rfl
@[simp] theorem State.setCcrh_direct (s : State) (v : Ccrh) : (s.setCcrh v).direct = s.direct := rfl
@[simp] theorem State.setCcrh_vectorBase (s : State) (v : Ccrh) : (s.setCcrh v).vectorBase = s.vectorBase := rfl
@[simp] theorem State.setCcrh_run (s : State) (v : Ccrh) : (s.setCcrh v).run = s.run := rfl
@[simp] theorem State.setCcrh_iDelay (s : State) (v : Ccrh) : (s.setCcrh v).iDelay = s.iDelay := rfl
@[simp] theorem State.setCcrh_wav (s : State) (v : Ccrh) : (s.setCcrh v).wav = s.wav := rfl
@[simp] theorem State.setCcrh_mem (s : State) (v : Ccrh) : (s.setCcrh v).mem = s.mem := rfl
@[simp] theorem State.setCcrh_inputs (s : State) (v : Ccrh) : (s.setCcrh v).inputs = s.inputs := rfl
@[simp] theorem State.setCcrh_tick (s : State) (v : Ccrh) : (s.setCcrh v).tick = s.tick := rfl
@[simp] theorem State.setCcrh_stale (s : State) (v : Ccrh) : (s.setCcrh v).stale = s.stale := rfl
@[simp] theorem State.setCcrh_pageStored (s : State) (v : Ccrh) : (s.setCcrh v).pageStored = s.pageStored := rfl
@[simp] theorem State.setCcrh_rtiFrame (s : State) (v : Ccrh) : (s.setCcrh v).rtiFrame = s.rtiFrame := rfl

@[simp] theorem State.setTmp1_cfg (s : State) (v : Tmp) : (s.setTmp1 v).cfg = s.cfg := rfl
@[simp] theorem State.setTmp1_a (s : State) (v : Tmp) : (s.setTmp1 v).a = s.a := rfl
@[simp] theorem State.setTmp1_b (s : State) (v : Tmp) : (s.setTmp1 v).b = s.b := rfl
@[simp] theorem State.setTmp1_x (s : State) (v : Tmp) : (s.setTmp1 v).x = s.x := rfl
@[simp] theorem State.setTmp1_y (s : State) (v : Tmp) : (s.setTmp1 v).y = s.y := rfl
@[simp] theorem State.setTmp1_sp (s : State) (v : Tmp) : (s.setTmp1 v).sp = s.sp := rfl
@[simp] theorem State.setTmp1_pc (s : State) (v : Tmp) : (s.setTmp1 v).pc = s.pc := rfl
@[simp] theorem State.setTmp1_ccr (s : State) (v : Tmp) : (s.setTmp1 v).ccr = s.ccr := rfl
@[simp] theorem State.setTmp1_ccrh (s : State) (v : Tmp) : (s.setTmp1 v).ccrh = s.ccrh := rfl
@[simp] theorem State.setTmp1_tmp1 (s : State) (v : Tmp) : (s.setTmp1 v).tmp1 = v := rfl
@[simp] theorem State.setTmp1_tmp2 (s : State) (v : Tmp) : (s.setTmp1 v).tmp2 = s.tmp2 := rfl
@[simp] theorem State.setTmp1_tmp3 (s : State) (v : Tmp) : (s.setTmp1 v).tmp3 = s.tmp3 := rfl
@[simp] theorem State.setTmp1_ppage (s : State) (v : Tmp) : (s.setTmp1 v).ppage = s.ppage := rfl
@[simp] theorem State.setTmp1_gpage (s : State) (v : Tmp) : (s.setTmp1 v).gpage = s.gpage := rfl
@[simp] theorem State.setTmp1_direct (s : State) (v : Tmp) : (s.setTmp1 v).direct = s.direct := rfl
@[simp] theorem State.setTmp1_vectorBase (s : State) (v : Tmp) : (s.setTmp1 v).vectorBase = s.vectorBase := rfl
@[simp] theorem State.setTmp1_run (s : State) (v : Tmp) : (s.setTmp1 v).run = s.run := rfl
@[simp] theorem State.setTmp1_iDelay (s : State) (v : Tmp) : (s.setTmp1 v).iDelay = s.iDelay := rfl
@[simp] theorem State.setTmp1_wav (s : State) (v : Tmp) : (s.setTmp1 v).wav = s.wav := rfl
@[simp] theorem State.setTmp1_mem (s : State) (v : Tmp) : (s.setTmp1 v).mem = s.mem := rfl
@[simp] theorem State.setTmp1_inputs (s : State) (v : Tmp) : (s.setTmp1 v).inputs = s.inputs := rfl
@[simp] theorem State.setTmp1_tick (s : State) (v : Tmp) : (s.setTmp1 v).tick = s.tick := rfl
@[simp] theorem State.setTmp1_stale (s : State) (v : Tmp) : (s.setTmp1 v).stale = s.stale := rfl
@[simp] theorem State.setTmp1_pageStored (s : State) (v : Tmp) : (s.setTmp1 v).pageStored = s.pageStored := rfl
@[simp] theorem State.setTmp1_rtiFrame (s : State) (v : Tmp) : (s.setTmp1 v).rtiFrame = s.rtiFrame := rfl

@[simp] theorem State.setTmp2_cfg (s : State) (v : Tmp) : (s.setTmp2 v).cfg = s.cfg := rfl
@[simp] theorem State.setTmp2_a (s : State) (v : Tmp) : (s.setTmp2 v).a = s.a := rfl
@[simp] theorem State.setTmp2_b (s : State) (v : Tmp) : (s.setTmp2 v).b = s.b := rfl
@[simp] theorem State.setTmp2_x (s : State) (v : Tmp) : (s.setTmp2 v).x = s.x := rfl
@[simp] theorem State.setTmp2_y (s : State) (v : Tmp) : (s.setTmp2 v).y = s.y := rfl
@[simp] theorem State.setTmp2_sp (s : State) (v : Tmp) : (s.setTmp2 v).sp = s.sp := rfl
@[simp] theorem State.setTmp2_pc (s : State) (v : Tmp) : (s.setTmp2 v).pc = s.pc := rfl
@[simp] theorem State.setTmp2_ccr (s : State) (v : Tmp) : (s.setTmp2 v).ccr = s.ccr := rfl
@[simp] theorem State.setTmp2_ccrh (s : State) (v : Tmp) : (s.setTmp2 v).ccrh = s.ccrh := rfl
@[simp] theorem State.setTmp2_tmp1 (s : State) (v : Tmp) : (s.setTmp2 v).tmp1 = s.tmp1 := rfl
@[simp] theorem State.setTmp2_tmp2 (s : State) (v : Tmp) : (s.setTmp2 v).tmp2 = v := rfl
@[simp] theorem State.setTmp2_tmp3 (s : State) (v : Tmp) : (s.setTmp2 v).tmp3 = s.tmp3 := rfl
@[simp] theorem State.setTmp2_ppage (s : State) (v : Tmp) : (s.setTmp2 v).ppage = s.ppage := rfl
@[simp] theorem State.setTmp2_gpage (s : State) (v : Tmp) : (s.setTmp2 v).gpage = s.gpage := rfl
@[simp] theorem State.setTmp2_direct (s : State) (v : Tmp) : (s.setTmp2 v).direct = s.direct := rfl
@[simp] theorem State.setTmp2_vectorBase (s : State) (v : Tmp) : (s.setTmp2 v).vectorBase = s.vectorBase := rfl
@[simp] theorem State.setTmp2_run (s : State) (v : Tmp) : (s.setTmp2 v).run = s.run := rfl
@[simp] theorem State.setTmp2_iDelay (s : State) (v : Tmp) : (s.setTmp2 v).iDelay = s.iDelay := rfl
@[simp] theorem State.setTmp2_wav (s : State) (v : Tmp) : (s.setTmp2 v).wav = s.wav := rfl
@[simp] theorem State.setTmp2_mem (s : State) (v : Tmp) : (s.setTmp2 v).mem = s.mem := rfl
@[simp] theorem State.setTmp2_inputs (s : State) (v : Tmp) : (s.setTmp2 v).inputs = s.inputs := rfl
@[simp] theorem State.setTmp2_tick (s : State) (v : Tmp) : (s.setTmp2 v).tick = s.tick := rfl
@[simp] theorem State.setTmp2_stale (s : State) (v : Tmp) : (s.setTmp2 v).stale = s.stale := rfl
@[simp] theorem State.setTmp2_pageStored (s : State) (v : Tmp) : (s.setTmp2 v).pageStored = s.pageStored := rfl
@[simp] theorem State.setTmp2_rtiFrame (s : State) (v : Tmp) : (s.setTmp2 v).rtiFrame = s.rtiFrame := rfl

@[simp] theorem State.setTmp3_cfg (s : State) (v : Tmp) : (s.setTmp3 v).cfg = s.cfg := rfl
@[simp] theorem State.setTmp3_a (s : State) (v : Tmp) : (s.setTmp3 v).a = s.a := rfl
@[simp] theorem State.setTmp3_b (s : State) (v : Tmp) : (s.setTmp3 v).b = s.b := rfl
@[simp] theorem State.setTmp3_x (s : State) (v : Tmp) : (s.setTmp3 v).x = s.x := rfl
@[simp] theorem State.setTmp3_y (s : State) (v : Tmp) : (s.setTmp3 v).y = s.y := rfl
@[simp] theorem State.setTmp3_sp (s : State) (v : Tmp) : (s.setTmp3 v).sp = s.sp := rfl
@[simp] theorem State.setTmp3_pc (s : State) (v : Tmp) : (s.setTmp3 v).pc = s.pc := rfl
@[simp] theorem State.setTmp3_ccr (s : State) (v : Tmp) : (s.setTmp3 v).ccr = s.ccr := rfl
@[simp] theorem State.setTmp3_ccrh (s : State) (v : Tmp) : (s.setTmp3 v).ccrh = s.ccrh := rfl
@[simp] theorem State.setTmp3_tmp1 (s : State) (v : Tmp) : (s.setTmp3 v).tmp1 = s.tmp1 := rfl
@[simp] theorem State.setTmp3_tmp2 (s : State) (v : Tmp) : (s.setTmp3 v).tmp2 = s.tmp2 := rfl
@[simp] theorem State.setTmp3_tmp3 (s : State) (v : Tmp) : (s.setTmp3 v).tmp3 = v := rfl
@[simp] theorem State.setTmp3_ppage (s : State) (v : Tmp) : (s.setTmp3 v).ppage = s.ppage := rfl
@[simp] theorem State.setTmp3_gpage (s : State) (v : Tmp) : (s.setTmp3 v).gpage = s.gpage := rfl
@[simp] theorem State.setTmp3_direct (s : State) (v : Tmp) : (s.setTmp3 v).direct = s.direct := rfl
@[simp] theorem State.setTmp3_vectorBase (s : State) (v : Tmp) : (s.setTmp3 v).vectorBase = s.vectorBase := rfl
@[simp] theorem State.setTmp3_run (s : State) (v : Tmp) : (s.setTmp3 v).run = s.run := rfl
@[simp] theorem State.setTmp3_iDelay (s : State) (v : Tmp) : (s.setTmp3 v).iDelay = s.iDelay := rfl
@[simp] theorem State.setTmp3_wav (s : State) (v : Tmp) : (s.setTmp3 v).wav = s.wav := rfl
@[simp] theorem State.setTmp3_mem (s : State) (v : Tmp) : (s.setTmp3 v).mem = s.mem := rfl
@[simp] theorem State.setTmp3_inputs (s : State) (v : Tmp) : (s.setTmp3 v).inputs = s.inputs := rfl
@[simp] theorem State.setTmp3_tick (s : State) (v : Tmp) : (s.setTmp3 v).tick = s.tick := rfl
@[simp] theorem State.setTmp3_stale (s : State) (v : Tmp) : (s.setTmp3 v).stale = s.stale := rfl
@[simp] theorem State.setTmp3_pageStored (s : State) (v : Tmp) : (s.setTmp3 v).pageStored = s.pageStored := rfl
@[simp] theorem State.setTmp3_rtiFrame (s : State) (v : Tmp) : (s.setTmp3 v).rtiFrame = s.rtiFrame := rfl

@[simp] theorem State.setPpage_cfg (s : State) (v : Byte) : (s.setPpage v).cfg = s.cfg := rfl
@[simp] theorem State.setPpage_a (s : State) (v : Byte) : (s.setPpage v).a = s.a := rfl
@[simp] theorem State.setPpage_b (s : State) (v : Byte) : (s.setPpage v).b = s.b := rfl
@[simp] theorem State.setPpage_x (s : State) (v : Byte) : (s.setPpage v).x = s.x := rfl
@[simp] theorem State.setPpage_y (s : State) (v : Byte) : (s.setPpage v).y = s.y := rfl
@[simp] theorem State.setPpage_sp (s : State) (v : Byte) : (s.setPpage v).sp = s.sp := rfl
@[simp] theorem State.setPpage_pc (s : State) (v : Byte) : (s.setPpage v).pc = s.pc := rfl
@[simp] theorem State.setPpage_ccr (s : State) (v : Byte) : (s.setPpage v).ccr = s.ccr := rfl
@[simp] theorem State.setPpage_ccrh (s : State) (v : Byte) : (s.setPpage v).ccrh = s.ccrh := rfl
@[simp] theorem State.setPpage_tmp1 (s : State) (v : Byte) : (s.setPpage v).tmp1 = s.tmp1 := rfl
@[simp] theorem State.setPpage_tmp2 (s : State) (v : Byte) : (s.setPpage v).tmp2 = s.tmp2 := rfl
@[simp] theorem State.setPpage_tmp3 (s : State) (v : Byte) : (s.setPpage v).tmp3 = s.tmp3 := rfl
@[simp] theorem State.setPpage_ppage (s : State) (v : Byte) : (s.setPpage v).ppage = v := rfl
@[simp] theorem State.setPpage_gpage (s : State) (v : Byte) : (s.setPpage v).gpage = s.gpage := rfl
@[simp] theorem State.setPpage_direct (s : State) (v : Byte) : (s.setPpage v).direct = s.direct := rfl
@[simp] theorem State.setPpage_vectorBase (s : State) (v : Byte) : (s.setPpage v).vectorBase = s.vectorBase := rfl
@[simp] theorem State.setPpage_run (s : State) (v : Byte) : (s.setPpage v).run = s.run := rfl
@[simp] theorem State.setPpage_iDelay (s : State) (v : Byte) : (s.setPpage v).iDelay = s.iDelay := rfl
@[simp] theorem State.setPpage_wav (s : State) (v : Byte) : (s.setPpage v).wav = s.wav := rfl
@[simp] theorem State.setPpage_mem (s : State) (v : Byte) : (s.setPpage v).mem = s.mem := rfl
@[simp] theorem State.setPpage_inputs (s : State) (v : Byte) : (s.setPpage v).inputs = s.inputs := rfl
@[simp] theorem State.setPpage_tick (s : State) (v : Byte) : (s.setPpage v).tick = s.tick := rfl
@[simp] theorem State.setPpage_stale (s : State) (v : Byte) : (s.setPpage v).stale = s.stale := rfl
@[simp] theorem State.setPpage_pageStored (s : State) (v : Byte) : (s.setPpage v).pageStored = s.pageStored := rfl
@[simp] theorem State.setPpage_rtiFrame (s : State) (v : Byte) : (s.setPpage v).rtiFrame = s.rtiFrame := rfl

@[simp] theorem State.setGpage_cfg (s : State) (v : BitVec 7) : (s.setGpage v).cfg = s.cfg := rfl
@[simp] theorem State.setGpage_a (s : State) (v : BitVec 7) : (s.setGpage v).a = s.a := rfl
@[simp] theorem State.setGpage_b (s : State) (v : BitVec 7) : (s.setGpage v).b = s.b := rfl
@[simp] theorem State.setGpage_x (s : State) (v : BitVec 7) : (s.setGpage v).x = s.x := rfl
@[simp] theorem State.setGpage_y (s : State) (v : BitVec 7) : (s.setGpage v).y = s.y := rfl
@[simp] theorem State.setGpage_sp (s : State) (v : BitVec 7) : (s.setGpage v).sp = s.sp := rfl
@[simp] theorem State.setGpage_pc (s : State) (v : BitVec 7) : (s.setGpage v).pc = s.pc := rfl
@[simp] theorem State.setGpage_ccr (s : State) (v : BitVec 7) : (s.setGpage v).ccr = s.ccr := rfl
@[simp] theorem State.setGpage_ccrh (s : State) (v : BitVec 7) : (s.setGpage v).ccrh = s.ccrh := rfl
@[simp] theorem State.setGpage_tmp1 (s : State) (v : BitVec 7) : (s.setGpage v).tmp1 = s.tmp1 := rfl
@[simp] theorem State.setGpage_tmp2 (s : State) (v : BitVec 7) : (s.setGpage v).tmp2 = s.tmp2 := rfl
@[simp] theorem State.setGpage_tmp3 (s : State) (v : BitVec 7) : (s.setGpage v).tmp3 = s.tmp3 := rfl
@[simp] theorem State.setGpage_ppage (s : State) (v : BitVec 7) : (s.setGpage v).ppage = s.ppage := rfl
@[simp] theorem State.setGpage_gpage (s : State) (v : BitVec 7) : (s.setGpage v).gpage = v := rfl
@[simp] theorem State.setGpage_direct (s : State) (v : BitVec 7) : (s.setGpage v).direct = s.direct := rfl
@[simp] theorem State.setGpage_vectorBase (s : State) (v : BitVec 7) : (s.setGpage v).vectorBase = s.vectorBase := rfl
@[simp] theorem State.setGpage_run (s : State) (v : BitVec 7) : (s.setGpage v).run = s.run := rfl
@[simp] theorem State.setGpage_iDelay (s : State) (v : BitVec 7) : (s.setGpage v).iDelay = s.iDelay := rfl
@[simp] theorem State.setGpage_wav (s : State) (v : BitVec 7) : (s.setGpage v).wav = s.wav := rfl
@[simp] theorem State.setGpage_mem (s : State) (v : BitVec 7) : (s.setGpage v).mem = s.mem := rfl
@[simp] theorem State.setGpage_inputs (s : State) (v : BitVec 7) : (s.setGpage v).inputs = s.inputs := rfl
@[simp] theorem State.setGpage_tick (s : State) (v : BitVec 7) : (s.setGpage v).tick = s.tick := rfl
@[simp] theorem State.setGpage_stale (s : State) (v : BitVec 7) : (s.setGpage v).stale = s.stale := rfl
@[simp] theorem State.setGpage_pageStored (s : State) (v : BitVec 7) : (s.setGpage v).pageStored = s.pageStored := rfl
@[simp] theorem State.setGpage_rtiFrame (s : State) (v : BitVec 7) : (s.setGpage v).rtiFrame = s.rtiFrame := rfl

@[simp] theorem State.setDirect_cfg (s : State) (v : Byte) : (s.setDirect v).cfg = s.cfg := rfl
@[simp] theorem State.setDirect_a (s : State) (v : Byte) : (s.setDirect v).a = s.a := rfl
@[simp] theorem State.setDirect_b (s : State) (v : Byte) : (s.setDirect v).b = s.b := rfl
@[simp] theorem State.setDirect_x (s : State) (v : Byte) : (s.setDirect v).x = s.x := rfl
@[simp] theorem State.setDirect_y (s : State) (v : Byte) : (s.setDirect v).y = s.y := rfl
@[simp] theorem State.setDirect_sp (s : State) (v : Byte) : (s.setDirect v).sp = s.sp := rfl
@[simp] theorem State.setDirect_pc (s : State) (v : Byte) : (s.setDirect v).pc = s.pc := rfl
@[simp] theorem State.setDirect_ccr (s : State) (v : Byte) : (s.setDirect v).ccr = s.ccr := rfl
@[simp] theorem State.setDirect_ccrh (s : State) (v : Byte) : (s.setDirect v).ccrh = s.ccrh := rfl
@[simp] theorem State.setDirect_tmp1 (s : State) (v : Byte) : (s.setDirect v).tmp1 = s.tmp1 := rfl
@[simp] theorem State.setDirect_tmp2 (s : State) (v : Byte) : (s.setDirect v).tmp2 = s.tmp2 := rfl
@[simp] theorem State.setDirect_tmp3 (s : State) (v : Byte) : (s.setDirect v).tmp3 = s.tmp3 := rfl
@[simp] theorem State.setDirect_ppage (s : State) (v : Byte) : (s.setDirect v).ppage = s.ppage := rfl
@[simp] theorem State.setDirect_gpage (s : State) (v : Byte) : (s.setDirect v).gpage = s.gpage := rfl
@[simp] theorem State.setDirect_direct (s : State) (v : Byte) : (s.setDirect v).direct = v := rfl
@[simp] theorem State.setDirect_vectorBase (s : State) (v : Byte) : (s.setDirect v).vectorBase = s.vectorBase := rfl
@[simp] theorem State.setDirect_run (s : State) (v : Byte) : (s.setDirect v).run = s.run := rfl
@[simp] theorem State.setDirect_iDelay (s : State) (v : Byte) : (s.setDirect v).iDelay = s.iDelay := rfl
@[simp] theorem State.setDirect_wav (s : State) (v : Byte) : (s.setDirect v).wav = s.wav := rfl
@[simp] theorem State.setDirect_mem (s : State) (v : Byte) : (s.setDirect v).mem = s.mem := rfl
@[simp] theorem State.setDirect_inputs (s : State) (v : Byte) : (s.setDirect v).inputs = s.inputs := rfl
@[simp] theorem State.setDirect_tick (s : State) (v : Byte) : (s.setDirect v).tick = s.tick := rfl
@[simp] theorem State.setDirect_stale (s : State) (v : Byte) : (s.setDirect v).stale = s.stale := rfl
@[simp] theorem State.setDirect_pageStored (s : State) (v : Byte) : (s.setDirect v).pageStored = s.pageStored := rfl
@[simp] theorem State.setDirect_rtiFrame (s : State) (v : Byte) : (s.setDirect v).rtiFrame = s.rtiFrame := rfl

@[simp] theorem State.setVectorBase_cfg (s : State) (v : Byte) : (s.setVectorBase v).cfg = s.cfg := rfl
@[simp] theorem State.setVectorBase_a (s : State) (v : Byte) : (s.setVectorBase v).a = s.a := rfl
@[simp] theorem State.setVectorBase_b (s : State) (v : Byte) : (s.setVectorBase v).b = s.b := rfl
@[simp] theorem State.setVectorBase_x (s : State) (v : Byte) : (s.setVectorBase v).x = s.x := rfl
@[simp] theorem State.setVectorBase_y (s : State) (v : Byte) : (s.setVectorBase v).y = s.y := rfl
@[simp] theorem State.setVectorBase_sp (s : State) (v : Byte) : (s.setVectorBase v).sp = s.sp := rfl
@[simp] theorem State.setVectorBase_pc (s : State) (v : Byte) : (s.setVectorBase v).pc = s.pc := rfl
@[simp] theorem State.setVectorBase_ccr (s : State) (v : Byte) : (s.setVectorBase v).ccr = s.ccr := rfl
@[simp] theorem State.setVectorBase_ccrh (s : State) (v : Byte) : (s.setVectorBase v).ccrh = s.ccrh := rfl
@[simp] theorem State.setVectorBase_tmp1 (s : State) (v : Byte) : (s.setVectorBase v).tmp1 = s.tmp1 := rfl
@[simp] theorem State.setVectorBase_tmp2 (s : State) (v : Byte) : (s.setVectorBase v).tmp2 = s.tmp2 := rfl
@[simp] theorem State.setVectorBase_tmp3 (s : State) (v : Byte) : (s.setVectorBase v).tmp3 = s.tmp3 := rfl
@[simp] theorem State.setVectorBase_ppage (s : State) (v : Byte) : (s.setVectorBase v).ppage = s.ppage := rfl
@[simp] theorem State.setVectorBase_gpage (s : State) (v : Byte) : (s.setVectorBase v).gpage = s.gpage := rfl
@[simp] theorem State.setVectorBase_direct (s : State) (v : Byte) : (s.setVectorBase v).direct = s.direct := rfl
@[simp] theorem State.setVectorBase_vectorBase (s : State) (v : Byte) : (s.setVectorBase v).vectorBase = v := rfl
@[simp] theorem State.setVectorBase_run (s : State) (v : Byte) : (s.setVectorBase v).run = s.run := rfl
@[simp] theorem State.setVectorBase_iDelay (s : State) (v : Byte) : (s.setVectorBase v).iDelay = s.iDelay := rfl
@[simp] theorem State.setVectorBase_wav (s : State) (v : Byte) : (s.setVectorBase v).wav = s.wav := rfl
@[simp] theorem State.setVectorBase_mem (s : State) (v : Byte) : (s.setVectorBase v).mem = s.mem := rfl
@[simp] theorem State.setVectorBase_inputs (s : State) (v : Byte) : (s.setVectorBase v).inputs = s.inputs := rfl
@[simp] theorem State.setVectorBase_tick (s : State) (v : Byte) : (s.setVectorBase v).tick = s.tick := rfl
@[simp] theorem State.setVectorBase_stale (s : State) (v : Byte) : (s.setVectorBase v).stale = s.stale := rfl
@[simp] theorem State.setVectorBase_pageStored (s : State) (v : Byte) : (s.setVectorBase v).pageStored = s.pageStored := rfl
@[simp] theorem State.setVectorBase_rtiFrame (s : State) (v : Byte) : (s.setVectorBase v).rtiFrame = s.rtiFrame := rfl

@[simp] theorem State.setRun_cfg (s : State) (v : RunState) : (s.setRun v).cfg = s.cfg := rfl
@[simp] theorem State.setRun_a (s : State) (v : RunState) : (s.setRun v).a = s.a := rfl
@[simp] theorem State.setRun_b (s : State) (v : RunState) : (s.setRun v).b = s.b := rfl
@[simp] theorem State.setRun_x (s : State) (v : RunState) : (s.setRun v).x = s.x := rfl
@[simp] theorem State.setRun_y (s : State) (v : RunState) : (s.setRun v).y = s.y := rfl
@[simp] theorem State.setRun_sp (s : State) (v : RunState) : (s.setRun v).sp = s.sp := rfl
@[simp] theorem State.setRun_pc (s : State) (v : RunState) : (s.setRun v).pc = s.pc := rfl
@[simp] theorem State.setRun_ccr (s : State) (v : RunState) : (s.setRun v).ccr = s.ccr := rfl
@[simp] theorem State.setRun_ccrh (s : State) (v : RunState) : (s.setRun v).ccrh = s.ccrh := rfl
@[simp] theorem State.setRun_tmp1 (s : State) (v : RunState) : (s.setRun v).tmp1 = s.tmp1 := rfl
@[simp] theorem State.setRun_tmp2 (s : State) (v : RunState) : (s.setRun v).tmp2 = s.tmp2 := rfl
@[simp] theorem State.setRun_tmp3 (s : State) (v : RunState) : (s.setRun v).tmp3 = s.tmp3 := rfl
@[simp] theorem State.setRun_ppage (s : State) (v : RunState) : (s.setRun v).ppage = s.ppage := rfl
@[simp] theorem State.setRun_gpage (s : State) (v : RunState) : (s.setRun v).gpage = s.gpage := rfl
@[simp] theorem State.setRun_direct (s : State) (v : RunState) : (s.setRun v).direct = s.direct := rfl
@[simp] theorem State.setRun_vectorBase (s : State) (v : RunState) : (s.setRun v).vectorBase = s.vectorBase := rfl
@[simp] theorem State.setRun_run (s : State) (v : RunState) : (s.setRun v).run = v := rfl
@[simp] theorem State.setRun_iDelay (s : State) (v : RunState) : (s.setRun v).iDelay = s.iDelay := rfl
@[simp] theorem State.setRun_wav (s : State) (v : RunState) : (s.setRun v).wav = s.wav := rfl
@[simp] theorem State.setRun_mem (s : State) (v : RunState) : (s.setRun v).mem = s.mem := rfl
@[simp] theorem State.setRun_inputs (s : State) (v : RunState) : (s.setRun v).inputs = s.inputs := rfl
@[simp] theorem State.setRun_tick (s : State) (v : RunState) : (s.setRun v).tick = s.tick := rfl
@[simp] theorem State.setRun_stale (s : State) (v : RunState) : (s.setRun v).stale = s.stale := rfl
@[simp] theorem State.setRun_pageStored (s : State) (v : RunState) : (s.setRun v).pageStored = s.pageStored := rfl
@[simp] theorem State.setRun_rtiFrame (s : State) (v : RunState) : (s.setRun v).rtiFrame = s.rtiFrame := rfl

@[simp] theorem State.setIDelay_cfg (s : State) (v : Bool) : (s.setIDelay v).cfg = s.cfg := rfl
@[simp] theorem State.setIDelay_a (s : State) (v : Bool) : (s.setIDelay v).a = s.a := rfl
@[simp] theorem State.setIDelay_b (s : State) (v : Bool) : (s.setIDelay v).b = s.b := rfl
@[simp] theorem State.setIDelay_x (s : State) (v : Bool) : (s.setIDelay v).x = s.x := rfl
@[simp] theorem State.setIDelay_y (s : State) (v : Bool) : (s.setIDelay v).y = s.y := rfl
@[simp] theorem State.setIDelay_sp (s : State) (v : Bool) : (s.setIDelay v).sp = s.sp := rfl
@[simp] theorem State.setIDelay_pc (s : State) (v : Bool) : (s.setIDelay v).pc = s.pc := rfl
@[simp] theorem State.setIDelay_ccr (s : State) (v : Bool) : (s.setIDelay v).ccr = s.ccr := rfl
@[simp] theorem State.setIDelay_ccrh (s : State) (v : Bool) : (s.setIDelay v).ccrh = s.ccrh := rfl
@[simp] theorem State.setIDelay_tmp1 (s : State) (v : Bool) : (s.setIDelay v).tmp1 = s.tmp1 := rfl
@[simp] theorem State.setIDelay_tmp2 (s : State) (v : Bool) : (s.setIDelay v).tmp2 = s.tmp2 := rfl
@[simp] theorem State.setIDelay_tmp3 (s : State) (v : Bool) : (s.setIDelay v).tmp3 = s.tmp3 := rfl
@[simp] theorem State.setIDelay_ppage (s : State) (v : Bool) : (s.setIDelay v).ppage = s.ppage := rfl
@[simp] theorem State.setIDelay_gpage (s : State) (v : Bool) : (s.setIDelay v).gpage = s.gpage := rfl
@[simp] theorem State.setIDelay_direct (s : State) (v : Bool) : (s.setIDelay v).direct = s.direct := rfl
@[simp] theorem State.setIDelay_vectorBase (s : State) (v : Bool) : (s.setIDelay v).vectorBase = s.vectorBase := rfl
@[simp] theorem State.setIDelay_run (s : State) (v : Bool) : (s.setIDelay v).run = s.run := rfl
@[simp] theorem State.setIDelay_iDelay (s : State) (v : Bool) : (s.setIDelay v).iDelay = v := rfl
@[simp] theorem State.setIDelay_wav (s : State) (v : Bool) : (s.setIDelay v).wav = s.wav := rfl
@[simp] theorem State.setIDelay_mem (s : State) (v : Bool) : (s.setIDelay v).mem = s.mem := rfl
@[simp] theorem State.setIDelay_inputs (s : State) (v : Bool) : (s.setIDelay v).inputs = s.inputs := rfl
@[simp] theorem State.setIDelay_tick (s : State) (v : Bool) : (s.setIDelay v).tick = s.tick := rfl
@[simp] theorem State.setIDelay_stale (s : State) (v : Bool) : (s.setIDelay v).stale = s.stale := rfl
@[simp] theorem State.setIDelay_pageStored (s : State) (v : Bool) : (s.setIDelay v).pageStored = s.pageStored := rfl
@[simp] theorem State.setIDelay_rtiFrame (s : State) (v : Bool) : (s.setIDelay v).rtiFrame = s.rtiFrame := rfl

@[simp] theorem State.setWav_cfg (s : State) (v : Option WavSums) : (s.setWav v).cfg = s.cfg := rfl
@[simp] theorem State.setWav_a (s : State) (v : Option WavSums) : (s.setWav v).a = s.a := rfl
@[simp] theorem State.setWav_b (s : State) (v : Option WavSums) : (s.setWav v).b = s.b := rfl
@[simp] theorem State.setWav_x (s : State) (v : Option WavSums) : (s.setWav v).x = s.x := rfl
@[simp] theorem State.setWav_y (s : State) (v : Option WavSums) : (s.setWav v).y = s.y := rfl
@[simp] theorem State.setWav_sp (s : State) (v : Option WavSums) : (s.setWav v).sp = s.sp := rfl
@[simp] theorem State.setWav_pc (s : State) (v : Option WavSums) : (s.setWav v).pc = s.pc := rfl
@[simp] theorem State.setWav_ccr (s : State) (v : Option WavSums) : (s.setWav v).ccr = s.ccr := rfl
@[simp] theorem State.setWav_ccrh (s : State) (v : Option WavSums) : (s.setWav v).ccrh = s.ccrh := rfl
@[simp] theorem State.setWav_tmp1 (s : State) (v : Option WavSums) : (s.setWav v).tmp1 = s.tmp1 := rfl
@[simp] theorem State.setWav_tmp2 (s : State) (v : Option WavSums) : (s.setWav v).tmp2 = s.tmp2 := rfl
@[simp] theorem State.setWav_tmp3 (s : State) (v : Option WavSums) : (s.setWav v).tmp3 = s.tmp3 := rfl
@[simp] theorem State.setWav_ppage (s : State) (v : Option WavSums) : (s.setWav v).ppage = s.ppage := rfl
@[simp] theorem State.setWav_gpage (s : State) (v : Option WavSums) : (s.setWav v).gpage = s.gpage := rfl
@[simp] theorem State.setWav_direct (s : State) (v : Option WavSums) : (s.setWav v).direct = s.direct := rfl
@[simp] theorem State.setWav_vectorBase (s : State) (v : Option WavSums) : (s.setWav v).vectorBase = s.vectorBase := rfl
@[simp] theorem State.setWav_run (s : State) (v : Option WavSums) : (s.setWav v).run = s.run := rfl
@[simp] theorem State.setWav_iDelay (s : State) (v : Option WavSums) : (s.setWav v).iDelay = s.iDelay := rfl
@[simp] theorem State.setWav_wav (s : State) (v : Option WavSums) : (s.setWav v).wav = v := rfl
@[simp] theorem State.setWav_mem (s : State) (v : Option WavSums) : (s.setWav v).mem = s.mem := rfl
@[simp] theorem State.setWav_inputs (s : State) (v : Option WavSums) : (s.setWav v).inputs = s.inputs := rfl
@[simp] theorem State.setWav_tick (s : State) (v : Option WavSums) : (s.setWav v).tick = s.tick := rfl
@[simp] theorem State.setWav_stale (s : State) (v : Option WavSums) : (s.setWav v).stale = s.stale := rfl
@[simp] theorem State.setWav_pageStored (s : State) (v : Option WavSums) : (s.setWav v).pageStored = s.pageStored := rfl
@[simp] theorem State.setWav_rtiFrame (s : State) (v : Option WavSums) : (s.setWav v).rtiFrame = s.rtiFrame := rfl

@[simp] theorem State.setMem_cfg (s : State) (v : Mem) : (s.setMem v).cfg = s.cfg := rfl
@[simp] theorem State.setMem_a (s : State) (v : Mem) : (s.setMem v).a = s.a := rfl
@[simp] theorem State.setMem_b (s : State) (v : Mem) : (s.setMem v).b = s.b := rfl
@[simp] theorem State.setMem_x (s : State) (v : Mem) : (s.setMem v).x = s.x := rfl
@[simp] theorem State.setMem_y (s : State) (v : Mem) : (s.setMem v).y = s.y := rfl
@[simp] theorem State.setMem_sp (s : State) (v : Mem) : (s.setMem v).sp = s.sp := rfl
@[simp] theorem State.setMem_pc (s : State) (v : Mem) : (s.setMem v).pc = s.pc := rfl
@[simp] theorem State.setMem_ccr (s : State) (v : Mem) : (s.setMem v).ccr = s.ccr := rfl
@[simp] theorem State.setMem_ccrh (s : State) (v : Mem) : (s.setMem v).ccrh = s.ccrh := rfl
@[simp] theorem State.setMem_tmp1 (s : State) (v : Mem) : (s.setMem v).tmp1 = s.tmp1 := rfl
@[simp] theorem State.setMem_tmp2 (s : State) (v : Mem) : (s.setMem v).tmp2 = s.tmp2 := rfl
@[simp] theorem State.setMem_tmp3 (s : State) (v : Mem) : (s.setMem v).tmp3 = s.tmp3 := rfl
@[simp] theorem State.setMem_ppage (s : State) (v : Mem) : (s.setMem v).ppage = s.ppage := rfl
@[simp] theorem State.setMem_gpage (s : State) (v : Mem) : (s.setMem v).gpage = s.gpage := rfl
@[simp] theorem State.setMem_direct (s : State) (v : Mem) : (s.setMem v).direct = s.direct := rfl
@[simp] theorem State.setMem_vectorBase (s : State) (v : Mem) : (s.setMem v).vectorBase = s.vectorBase := rfl
@[simp] theorem State.setMem_run (s : State) (v : Mem) : (s.setMem v).run = s.run := rfl
@[simp] theorem State.setMem_iDelay (s : State) (v : Mem) : (s.setMem v).iDelay = s.iDelay := rfl
@[simp] theorem State.setMem_wav (s : State) (v : Mem) : (s.setMem v).wav = s.wav := rfl
@[simp] theorem State.setMem_mem (s : State) (v : Mem) : (s.setMem v).mem = v := rfl
@[simp] theorem State.setMem_inputs (s : State) (v : Mem) : (s.setMem v).inputs = s.inputs := rfl
@[simp] theorem State.setMem_tick (s : State) (v : Mem) : (s.setMem v).tick = s.tick := rfl
@[simp] theorem State.setMem_stale (s : State) (v : Mem) : (s.setMem v).stale = s.stale := rfl
@[simp] theorem State.setMem_pageStored (s : State) (v : Mem) : (s.setMem v).pageStored = s.pageStored := rfl
@[simp] theorem State.setMem_rtiFrame (s : State) (v : Mem) : (s.setMem v).rtiFrame = s.rtiFrame := rfl

@[simp] theorem State.setInputs_cfg (s : State) (v : List Env) : (s.setInputs v).cfg = s.cfg := rfl
@[simp] theorem State.setInputs_a (s : State) (v : List Env) : (s.setInputs v).a = s.a := rfl
@[simp] theorem State.setInputs_b (s : State) (v : List Env) : (s.setInputs v).b = s.b := rfl
@[simp] theorem State.setInputs_x (s : State) (v : List Env) : (s.setInputs v).x = s.x := rfl
@[simp] theorem State.setInputs_y (s : State) (v : List Env) : (s.setInputs v).y = s.y := rfl
@[simp] theorem State.setInputs_sp (s : State) (v : List Env) : (s.setInputs v).sp = s.sp := rfl
@[simp] theorem State.setInputs_pc (s : State) (v : List Env) : (s.setInputs v).pc = s.pc := rfl
@[simp] theorem State.setInputs_ccr (s : State) (v : List Env) : (s.setInputs v).ccr = s.ccr := rfl
@[simp] theorem State.setInputs_ccrh (s : State) (v : List Env) : (s.setInputs v).ccrh = s.ccrh := rfl
@[simp] theorem State.setInputs_tmp1 (s : State) (v : List Env) : (s.setInputs v).tmp1 = s.tmp1 := rfl
@[simp] theorem State.setInputs_tmp2 (s : State) (v : List Env) : (s.setInputs v).tmp2 = s.tmp2 := rfl
@[simp] theorem State.setInputs_tmp3 (s : State) (v : List Env) : (s.setInputs v).tmp3 = s.tmp3 := rfl
@[simp] theorem State.setInputs_ppage (s : State) (v : List Env) : (s.setInputs v).ppage = s.ppage := rfl
@[simp] theorem State.setInputs_gpage (s : State) (v : List Env) : (s.setInputs v).gpage = s.gpage := rfl
@[simp] theorem State.setInputs_direct (s : State) (v : List Env) : (s.setInputs v).direct = s.direct := rfl
@[simp] theorem State.setInputs_vectorBase (s : State) (v : List Env) : (s.setInputs v).vectorBase = s.vectorBase := rfl
@[simp] theorem State.setInputs_run (s : State) (v : List Env) : (s.setInputs v).run = s.run := rfl
@[simp] theorem State.setInputs_iDelay (s : State) (v : List Env) : (s.setInputs v).iDelay = s.iDelay := rfl
@[simp] theorem State.setInputs_wav (s : State) (v : List Env) : (s.setInputs v).wav = s.wav := rfl
@[simp] theorem State.setInputs_mem (s : State) (v : List Env) : (s.setInputs v).mem = s.mem := rfl
@[simp] theorem State.setInputs_inputs (s : State) (v : List Env) : (s.setInputs v).inputs = v := rfl
@[simp] theorem State.setInputs_tick (s : State) (v : List Env) : (s.setInputs v).tick = s.tick := rfl
@[simp] theorem State.setInputs_stale (s : State) (v : List Env) : (s.setInputs v).stale = s.stale := rfl
@[simp] theorem State.setInputs_pageStored (s : State) (v : List Env) : (s.setInputs v).pageStored = s.pageStored := rfl
@[simp] theorem State.setInputs_rtiFrame (s : State) (v : List Env) : (s.setInputs v).rtiFrame = s.rtiFrame := rfl

@[simp] theorem State.setTick_cfg (s : State) (v : Nat) : (s.setTick v).cfg = s.cfg := rfl
@[simp] theorem State.setTick_a (s : State) (v : Nat) : (s.setTick v).a = s.a := rfl
@[simp] theorem State.setTick_b (s : State) (v : Nat) : (s.setTick v).b = s.b := rfl
@[simp] theorem State.setTick_x (s : State) (v : Nat) : (s.setTick v).x = s.x := rfl
@[simp] theorem State.setTick_y (s : State) (v : Nat) : (s.setTick v).y = s.y := rfl
@[simp] theorem State.setTick_sp (s : State) (v : Nat) : (s.setTick v).sp = s.sp := rfl
@[simp] theorem State.setTick_pc (s : State) (v : Nat) : (s.setTick v).pc = s.pc := rfl
@[simp] theorem State.setTick_ccr (s : State) (v : Nat) : (s.setTick v).ccr = s.ccr := rfl
@[simp] theorem State.setTick_ccrh (s : State) (v : Nat) : (s.setTick v).ccrh = s.ccrh := rfl
@[simp] theorem State.setTick_tmp1 (s : State) (v : Nat) : (s.setTick v).tmp1 = s.tmp1 := rfl
@[simp] theorem State.setTick_tmp2 (s : State) (v : Nat) : (s.setTick v).tmp2 = s.tmp2 := rfl
@[simp] theorem State.setTick_tmp3 (s : State) (v : Nat) : (s.setTick v).tmp3 = s.tmp3 := rfl
@[simp] theorem State.setTick_ppage (s : State) (v : Nat) : (s.setTick v).ppage = s.ppage := rfl
@[simp] theorem State.setTick_gpage (s : State) (v : Nat) : (s.setTick v).gpage = s.gpage := rfl
@[simp] theorem State.setTick_direct (s : State) (v : Nat) : (s.setTick v).direct = s.direct := rfl
@[simp] theorem State.setTick_vectorBase (s : State) (v : Nat) : (s.setTick v).vectorBase = s.vectorBase := rfl
@[simp] theorem State.setTick_run (s : State) (v : Nat) : (s.setTick v).run = s.run := rfl
@[simp] theorem State.setTick_iDelay (s : State) (v : Nat) : (s.setTick v).iDelay = s.iDelay := rfl
@[simp] theorem State.setTick_wav (s : State) (v : Nat) : (s.setTick v).wav = s.wav := rfl
@[simp] theorem State.setTick_mem (s : State) (v : Nat) : (s.setTick v).mem = s.mem := rfl
@[simp] theorem State.setTick_inputs (s : State) (v : Nat) : (s.setTick v).inputs = s.inputs := rfl
@[simp] theorem State.setTick_tick (s : State) (v : Nat) : (s.setTick v).tick = v := rfl
@[simp] theorem State.setTick_stale (s : State) (v : Nat) : (s.setTick v).stale = s.stale := rfl
@[simp] theorem State.setTick_pageStored (s : State) (v : Nat) : (s.setTick v).pageStored = s.pageStored := rfl
@[simp] theorem State.setTick_rtiFrame (s : State) (v : Nat) : (s.setTick v).rtiFrame = s.rtiFrame := rfl

@[simp] theorem State.setStale_cfg (s : State) (v : List Word) : (s.setStale v).cfg = s.cfg := rfl
@[simp] theorem State.setStale_a (s : State) (v : List Word) : (s.setStale v).a = s.a := rfl
@[simp] theorem State.setStale_b (s : State) (v : List Word) : (s.setStale v).b = s.b := rfl
@[simp] theorem State.setStale_x (s : State) (v : List Word) : (s.setStale v).x = s.x := rfl
@[simp] theorem State.setStale_y (s : State) (v : List Word) : (s.setStale v).y = s.y := rfl
@[simp] theorem State.setStale_sp (s : State) (v : List Word) : (s.setStale v).sp = s.sp := rfl
@[simp] theorem State.setStale_pc (s : State) (v : List Word) : (s.setStale v).pc = s.pc := rfl
@[simp] theorem State.setStale_ccr (s : State) (v : List Word) : (s.setStale v).ccr = s.ccr := rfl
@[simp] theorem State.setStale_ccrh (s : State) (v : List Word) : (s.setStale v).ccrh = s.ccrh := rfl
@[simp] theorem State.setStale_tmp1 (s : State) (v : List Word) : (s.setStale v).tmp1 = s.tmp1 := rfl
@[simp] theorem State.setStale_tmp2 (s : State) (v : List Word) : (s.setStale v).tmp2 = s.tmp2 := rfl
@[simp] theorem State.setStale_tmp3 (s : State) (v : List Word) : (s.setStale v).tmp3 = s.tmp3 := rfl
@[simp] theorem State.setStale_ppage (s : State) (v : List Word) : (s.setStale v).ppage = s.ppage := rfl
@[simp] theorem State.setStale_gpage (s : State) (v : List Word) : (s.setStale v).gpage = s.gpage := rfl
@[simp] theorem State.setStale_direct (s : State) (v : List Word) : (s.setStale v).direct = s.direct := rfl
@[simp] theorem State.setStale_vectorBase (s : State) (v : List Word) : (s.setStale v).vectorBase = s.vectorBase := rfl
@[simp] theorem State.setStale_run (s : State) (v : List Word) : (s.setStale v).run = s.run := rfl
@[simp] theorem State.setStale_iDelay (s : State) (v : List Word) : (s.setStale v).iDelay = s.iDelay := rfl
@[simp] theorem State.setStale_wav (s : State) (v : List Word) : (s.setStale v).wav = s.wav := rfl
@[simp] theorem State.setStale_mem (s : State) (v : List Word) : (s.setStale v).mem = s.mem := rfl
@[simp] theorem State.setStale_inputs (s : State) (v : List Word) : (s.setStale v).inputs = s.inputs := rfl
@[simp] theorem State.setStale_tick (s : State) (v : List Word) : (s.setStale v).tick = s.tick := rfl
@[simp] theorem State.setStale_stale (s : State) (v : List Word) : (s.setStale v).stale = v := rfl
@[simp] theorem State.setStale_pageStored (s : State) (v : List Word) : (s.setStale v).pageStored = s.pageStored := rfl
@[simp] theorem State.setStale_rtiFrame (s : State) (v : List Word) : (s.setStale v).rtiFrame = s.rtiFrame := rfl

@[simp] theorem State.setPageStored_cfg (s : State) (v : Bool) : (s.setPageStored v).cfg = s.cfg := rfl
@[simp] theorem State.setPageStored_a (s : State) (v : Bool) : (s.setPageStored v).a = s.a := rfl
@[simp] theorem State.setPageStored_b (s : State) (v : Bool) : (s.setPageStored v).b = s.b := rfl
@[simp] theorem State.setPageStored_x (s : State) (v : Bool) : (s.setPageStored v).x = s.x := rfl
@[simp] theorem State.setPageStored_y (s : State) (v : Bool) : (s.setPageStored v).y = s.y := rfl
@[simp] theorem State.setPageStored_sp (s : State) (v : Bool) : (s.setPageStored v).sp = s.sp := rfl
@[simp] theorem State.setPageStored_pc (s : State) (v : Bool) : (s.setPageStored v).pc = s.pc := rfl
@[simp] theorem State.setPageStored_ccr (s : State) (v : Bool) : (s.setPageStored v).ccr = s.ccr := rfl
@[simp] theorem State.setPageStored_ccrh (s : State) (v : Bool) : (s.setPageStored v).ccrh = s.ccrh := rfl
@[simp] theorem State.setPageStored_tmp1 (s : State) (v : Bool) : (s.setPageStored v).tmp1 = s.tmp1 := rfl
@[simp] theorem State.setPageStored_tmp2 (s : State) (v : Bool) : (s.setPageStored v).tmp2 = s.tmp2 := rfl
@[simp] theorem State.setPageStored_tmp3 (s : State) (v : Bool) : (s.setPageStored v).tmp3 = s.tmp3 := rfl
@[simp] theorem State.setPageStored_ppage (s : State) (v : Bool) : (s.setPageStored v).ppage = s.ppage := rfl
@[simp] theorem State.setPageStored_gpage (s : State) (v : Bool) : (s.setPageStored v).gpage = s.gpage := rfl
@[simp] theorem State.setPageStored_direct (s : State) (v : Bool) : (s.setPageStored v).direct = s.direct := rfl
@[simp] theorem State.setPageStored_vectorBase (s : State) (v : Bool) : (s.setPageStored v).vectorBase = s.vectorBase := rfl
@[simp] theorem State.setPageStored_run (s : State) (v : Bool) : (s.setPageStored v).run = s.run := rfl
@[simp] theorem State.setPageStored_iDelay (s : State) (v : Bool) : (s.setPageStored v).iDelay = s.iDelay := rfl
@[simp] theorem State.setPageStored_wav (s : State) (v : Bool) : (s.setPageStored v).wav = s.wav := rfl
@[simp] theorem State.setPageStored_mem (s : State) (v : Bool) : (s.setPageStored v).mem = s.mem := rfl
@[simp] theorem State.setPageStored_inputs (s : State) (v : Bool) : (s.setPageStored v).inputs = s.inputs := rfl
@[simp] theorem State.setPageStored_tick (s : State) (v : Bool) : (s.setPageStored v).tick = s.tick := rfl
@[simp] theorem State.setPageStored_stale (s : State) (v : Bool) : (s.setPageStored v).stale = s.stale := rfl
@[simp] theorem State.setPageStored_pageStored (s : State) (v : Bool) : (s.setPageStored v).pageStored = v := rfl
@[simp] theorem State.setPageStored_rtiFrame (s : State) (v : Bool) : (s.setPageStored v).rtiFrame = s.rtiFrame := rfl

@[simp] theorem State.setRtiFrame_cfg (s : State) (v : Bool) : (s.setRtiFrame v).cfg = s.cfg := rfl
@[simp] theorem State.setRtiFrame_a (s : State) (v : Bool) : (s.setRtiFrame v).a = s.a := rfl
@[simp] theorem State.setRtiFrame_b (s : State) (v : Bool) : (s.setRtiFrame v).b = s.b := rfl
@[simp] theorem State.setRtiFrame_x (s : State) (v : Bool) : (s.setRtiFrame v).x = s.x := rfl
@[simp] theorem State.setRtiFrame_y (s : State) (v : Bool) : (s.setRtiFrame v).y = s.y := rfl
@[simp] theorem State.setRtiFrame_sp (s : State) (v : Bool) : (s.setRtiFrame v).sp = s.sp := rfl
@[simp] theorem State.setRtiFrame_pc (s : State) (v : Bool) : (s.setRtiFrame v).pc = s.pc := rfl
@[simp] theorem State.setRtiFrame_ccr (s : State) (v : Bool) : (s.setRtiFrame v).ccr = s.ccr := rfl
@[simp] theorem State.setRtiFrame_ccrh (s : State) (v : Bool) : (s.setRtiFrame v).ccrh = s.ccrh := rfl
@[simp] theorem State.setRtiFrame_tmp1 (s : State) (v : Bool) : (s.setRtiFrame v).tmp1 = s.tmp1 := rfl
@[simp] theorem State.setRtiFrame_tmp2 (s : State) (v : Bool) : (s.setRtiFrame v).tmp2 = s.tmp2 := rfl
@[simp] theorem State.setRtiFrame_tmp3 (s : State) (v : Bool) : (s.setRtiFrame v).tmp3 = s.tmp3 := rfl
@[simp] theorem State.setRtiFrame_ppage (s : State) (v : Bool) : (s.setRtiFrame v).ppage = s.ppage := rfl
@[simp] theorem State.setRtiFrame_gpage (s : State) (v : Bool) : (s.setRtiFrame v).gpage = s.gpage := rfl
@[simp] theorem State.setRtiFrame_direct (s : State) (v : Bool) : (s.setRtiFrame v).direct = s.direct := rfl
@[simp] theorem State.setRtiFrame_vectorBase (s : State) (v : Bool) : (s.setRtiFrame v).vectorBase = s.vectorBase := rfl
@[simp] theorem State.setRtiFrame_run (s : State) (v : Bool) : (s.setRtiFrame v).run = s.run := rfl
@[simp] theorem State.setRtiFrame_iDelay (s : State) (v : Bool) : (s.setRtiFrame v).iDelay = s.iDelay := rfl
@[simp] theorem State.setRtiFrame_wav (s : State) (v : Bool) : (s.setRtiFrame v).wav = s.wav := rfl
@[simp] theorem State.setRtiFrame_mem (s : State) (v : Bool) : (s.setRtiFrame v).mem = s.mem := rfl
@[simp] theorem State.setRtiFrame_inputs (s : State) (v : Bool) : (s.setRtiFrame v).inputs = s.inputs := rfl
@[simp] theorem State.setRtiFrame_tick (s : State) (v : Bool) : (s.setRtiFrame v).tick = s.tick := rfl
@[simp] theorem State.setRtiFrame_stale (s : State) (v : Bool) : (s.setRtiFrame v).stale = s.stale := rfl
@[simp] theorem State.setRtiFrame_pageStored (s : State) (v : Bool) : (s.setRtiFrame v).pageStored = s.pageStored := rfl
@[simp] theorem State.setRtiFrame_rtiFrame (s : State) (v : Bool) : (s.setRtiFrame v).rtiFrame = v := rfl

@[simp] theorem State.setD_cfg (s : State) (v : Word) : (s.setD v).cfg = s.cfg := rfl
@[simp] theorem State.setD_a (s : State) (v : Word) : (s.setD v).a = hiByte v := rfl
@[simp] theorem State.setD_b (s : State) (v : Word) : (s.setD v).b = loByte v := rfl
@[simp] theorem State.setD_x (s : State) (v : Word) : (s.setD v).x = s.x := rfl
@[simp] theorem State.setD_y (s : State) (v : Word) : (s.setD v).y = s.y := rfl
@[simp] theorem State.setD_sp (s : State) (v : Word) : (s.setD v).sp = s.sp := rfl
@[simp] theorem State.setD_pc (s : State) (v : Word) : (s.setD v).pc = s.pc := rfl
@[simp] theorem State.setD_ccr (s : State) (v : Word) : (s.setD v).ccr = s.ccr := rfl
@[simp] theorem State.setD_ccrh (s : State) (v : Word) : (s.setD v).ccrh = s.ccrh := rfl
@[simp] theorem State.setD_tmp1 (s : State) (v : Word) : (s.setD v).tmp1 = s.tmp1 := rfl
@[simp] theorem State.setD_tmp2 (s : State) (v : Word) : (s.setD v).tmp2 = s.tmp2 := rfl
@[simp] theorem State.setD_tmp3 (s : State) (v : Word) : (s.setD v).tmp3 = s.tmp3 := rfl
@[simp] theorem State.setD_ppage (s : State) (v : Word) : (s.setD v).ppage = s.ppage := rfl
@[simp] theorem State.setD_gpage (s : State) (v : Word) : (s.setD v).gpage = s.gpage := rfl
@[simp] theorem State.setD_direct (s : State) (v : Word) : (s.setD v).direct = s.direct := rfl
@[simp] theorem State.setD_vectorBase (s : State) (v : Word) : (s.setD v).vectorBase = s.vectorBase := rfl
@[simp] theorem State.setD_run (s : State) (v : Word) : (s.setD v).run = s.run := rfl
@[simp] theorem State.setD_iDelay (s : State) (v : Word) : (s.setD v).iDelay = s.iDelay := rfl
@[simp] theorem State.setD_wav (s : State) (v : Word) : (s.setD v).wav = s.wav := rfl
@[simp] theorem State.setD_mem (s : State) (v : Word) : (s.setD v).mem = s.mem := rfl
@[simp] theorem State.setD_inputs (s : State) (v : Word) : (s.setD v).inputs = s.inputs := rfl
@[simp] theorem State.setD_tick (s : State) (v : Word) : (s.setD v).tick = s.tick := rfl
@[simp] theorem State.setD_stale (s : State) (v : Word) : (s.setD v).stale = s.stale := rfl
@[simp] theorem State.setD_pageStored (s : State) (v : Word) : (s.setD v).pageStored = s.pageStored := rfl
@[simp] theorem State.setD_rtiFrame (s : State) (v : Word) : (s.setD v).rtiFrame = s.rtiFrame := rfl

@[simp] theorem joinBytes_hi_lo (w : Word) : joinBytes (hiByte w) (loByte w) = w := by
  unfold joinBytes hiByte loByte
  apply BitVec.eq_of_getLsbD_eq
  intro i hi
  simp only [BitVec.getLsbD_append, BitVec.getLsbD_extractLsb']
  by_cases h : i < 8
  · simp [h]
  · have h8 : i - 8 < 8 := by omega
    simp [h, h8]
    congr 1
    omega

@[simp] theorem hiByte_join (h l : Byte) : hiByte (joinBytes h l) = h := by
  unfold joinBytes hiByte
  apply BitVec.eq_of_getLsbD_eq
  intro i hi
  rw [BitVec.getLsbD_extractLsb', BitVec.getLsbD_append]
  simp [hi]

@[simp] theorem loByte_join (h l : Byte) : loByte (joinBytes h l) = l := by
  unfold joinBytes loByte
  apply BitVec.eq_of_getLsbD_eq
  intro i hi
  rw [BitVec.getLsbD_extractLsb', BitVec.getLsbD_append]
  simp [hi]

@[simp] theorem State.setD_d (s : State) (v : Word) : (s.setD v).d = v := by
  simp [State.d]

end Sys2Proof.Machine
end

