-- ==== Sys2Proof/Laws/Access.lean ====
section
/-!
SUPPORT. What the shared memory and stack operations can do: one lemma per field a store leaves alone, what every byte
reads as after a store, and when two states read alike.
-/

namespace Sys2Proof.Machine

/-! ## The fields a store leaves alone -/

@[simp] theorem State.poke_cfg (s : State) (l : Loc) (v : Byte) : (s.poke l v).cfg = s.cfg := by
  cases l <;> simp only [State.poke] <;> first | rfl | (split <;> rfl)
@[simp] theorem State.poke_a (s : State) (l : Loc) (v : Byte) : (s.poke l v).a = s.a := by
  cases l <;> simp only [State.poke] <;> first | rfl | (split <;> rfl)
@[simp] theorem State.poke_b (s : State) (l : Loc) (v : Byte) : (s.poke l v).b = s.b := by
  cases l <;> simp only [State.poke] <;> first | rfl | (split <;> rfl)
@[simp] theorem State.poke_x (s : State) (l : Loc) (v : Byte) : (s.poke l v).x = s.x := by
  cases l <;> simp only [State.poke] <;> first | rfl | (split <;> rfl)
@[simp] theorem State.poke_y (s : State) (l : Loc) (v : Byte) : (s.poke l v).y = s.y := by
  cases l <;> simp only [State.poke] <;> first | rfl | (split <;> rfl)
@[simp] theorem State.poke_sp (s : State) (l : Loc) (v : Byte) : (s.poke l v).sp = s.sp := by
  cases l <;> simp only [State.poke] <;> first | rfl | (split <;> rfl)
@[simp] theorem State.poke_pc (s : State) (l : Loc) (v : Byte) : (s.poke l v).pc = s.pc := by
  cases l <;> simp only [State.poke] <;> first | rfl | (split <;> rfl)
@[simp] theorem State.poke_ccr (s : State) (l : Loc) (v : Byte) : (s.poke l v).ccr = s.ccr := by
  cases l <;> simp only [State.poke] <;> first | rfl | (split <;> rfl)
@[simp] theorem State.poke_ccrh (s : State) (l : Loc) (v : Byte) : (s.poke l v).ccrh = s.ccrh := by
  cases l <;> simp only [State.poke] <;> first | rfl | (split <;> rfl)
@[simp] theorem State.poke_tmp1 (s : State) (l : Loc) (v : Byte) : (s.poke l v).tmp1 = s.tmp1 := by
  cases l <;> simp only [State.poke] <;> first | rfl | (split <;> rfl)
@[simp] theorem State.poke_tmp2 (s : State) (l : Loc) (v : Byte) : (s.poke l v).tmp2 = s.tmp2 := by
  cases l <;> simp only [State.poke] <;> first | rfl | (split <;> rfl)
@[simp] theorem State.poke_tmp3 (s : State) (l : Loc) (v : Byte) : (s.poke l v).tmp3 = s.tmp3 := by
  cases l <;> simp only [State.poke] <;> first | rfl | (split <;> rfl)
@[simp] theorem State.poke_run (s : State) (l : Loc) (v : Byte) : (s.poke l v).run = s.run := by
  cases l <;> simp only [State.poke] <;> first | rfl | (split <;> rfl)
@[simp] theorem State.poke_iDelay (s : State) (l : Loc) (v : Byte) : (s.poke l v).iDelay = s.iDelay := by
  cases l <;> simp only [State.poke] <;> first | rfl | (split <;> rfl)
@[simp] theorem State.poke_wav (s : State) (l : Loc) (v : Byte) : (s.poke l v).wav = s.wav := by
  cases l <;> simp only [State.poke] <;> first | rfl | (split <;> rfl)
@[simp] theorem State.poke_inputs (s : State) (l : Loc) (v : Byte) : (s.poke l v).inputs = s.inputs := by
  cases l <;> simp only [State.poke] <;> first | rfl | (split <;> rfl)
@[simp] theorem State.poke_tick (s : State) (l : Loc) (v : Byte) : (s.poke l v).tick = s.tick := by
  cases l <;> simp only [State.poke] <;> first | rfl | (split <;> rfl)
@[simp] theorem State.poke_rtiFrame (s : State) (l : Loc) (v : Byte) : (s.poke l v).rtiFrame = s.rtiFrame := by
  cases l <;> simp only [State.poke] <;> first | rfl | (split <;> rfl)

@[simp] theorem State.markStale_cfg (s : State) (l : Loc) : (s.markStale l).cfg = s.cfg := rfl
@[simp] theorem State.markStale_a (s : State) (l : Loc) : (s.markStale l).a = s.a := rfl
@[simp] theorem State.markStale_b (s : State) (l : Loc) : (s.markStale l).b = s.b := rfl
@[simp] theorem State.markStale_x (s : State) (l : Loc) : (s.markStale l).x = s.x := rfl
@[simp] theorem State.markStale_y (s : State) (l : Loc) : (s.markStale l).y = s.y := rfl
@[simp] theorem State.markStale_sp (s : State) (l : Loc) : (s.markStale l).sp = s.sp := rfl
@[simp] theorem State.markStale_pc (s : State) (l : Loc) : (s.markStale l).pc = s.pc := rfl
@[simp] theorem State.markStale_ccr (s : State) (l : Loc) : (s.markStale l).ccr = s.ccr := rfl
@[simp] theorem State.markStale_ccrh (s : State) (l : Loc) : (s.markStale l).ccrh = s.ccrh := rfl
@[simp] theorem State.markStale_tmp1 (s : State) (l : Loc) : (s.markStale l).tmp1 = s.tmp1 := rfl
@[simp] theorem State.markStale_tmp2 (s : State) (l : Loc) : (s.markStale l).tmp2 = s.tmp2 := rfl
@[simp] theorem State.markStale_tmp3 (s : State) (l : Loc) : (s.markStale l).tmp3 = s.tmp3 := rfl
@[simp] theorem State.markStale_run (s : State) (l : Loc) : (s.markStale l).run = s.run := rfl
@[simp] theorem State.markStale_iDelay (s : State) (l : Loc) : (s.markStale l).iDelay = s.iDelay := rfl
@[simp] theorem State.markStale_wav (s : State) (l : Loc) : (s.markStale l).wav = s.wav := rfl
@[simp] theorem State.markStale_inputs (s : State) (l : Loc) : (s.markStale l).inputs = s.inputs := rfl
@[simp] theorem State.markStale_tick (s : State) (l : Loc) : (s.markStale l).tick = s.tick := rfl
@[simp] theorem State.markStale_rtiFrame (s : State) (l : Loc) : (s.markStale l).rtiFrame = s.rtiFrame := rfl
@[simp] theorem State.markStale_ppage (s : State) (l : Loc) : (s.markStale l).ppage = s.ppage := rfl
@[simp] theorem State.markStale_gpage (s : State) (l : Loc) : (s.markStale l).gpage = s.gpage := rfl
@[simp] theorem State.markStale_direct (s : State) (l : Loc) : (s.markStale l).direct = s.direct := rfl
@[simp] theorem State.markStale_vectorBase (s : State) (l : Loc) : (s.markStale l).vectorBase = s.vectorBase := rfl
@[simp] theorem State.markStale_mem (s : State) (l : Loc) : (s.markStale l).mem = s.mem := rfl
@[simp] theorem State.markStale_pageStored (s : State) (l : Loc) : (s.markStale l).pageStored = s.pageStored := rfl

@[simp] theorem State.store_cfg (s : State) (l : Loc) (v : Byte) : (s.store l v).cfg = s.cfg := by simp [State.store]
@[simp] theorem State.store_a (s : State) (l : Loc) (v : Byte) : (s.store l v).a = s.a := by simp [State.store]
@[simp] theorem State.store_b (s : State) (l : Loc) (v : Byte) : (s.store l v).b = s.b := by simp [State.store]
@[simp] theorem State.store_x (s : State) (l : Loc) (v : Byte) : (s.store l v).x = s.x := by simp [State.store]
@[simp] theorem State.store_y (s : State) (l : Loc) (v : Byte) : (s.store l v).y = s.y := by simp [State.store]
@[simp] theorem State.store_sp (s : State) (l : Loc) (v : Byte) : (s.store l v).sp = s.sp := by simp [State.store]
@[simp] theorem State.store_pc (s : State) (l : Loc) (v : Byte) : (s.store l v).pc = s.pc := by simp [State.store]
@[simp] theorem State.store_ccr (s : State) (l : Loc) (v : Byte) : (s.store l v).ccr = s.ccr := by simp [State.store]
@[simp] theorem State.store_ccrh (s : State) (l : Loc) (v : Byte) : (s.store l v).ccrh = s.ccrh := by simp [State.store]
@[simp] theorem State.store_tmp1 (s : State) (l : Loc) (v : Byte) : (s.store l v).tmp1 = s.tmp1 := by simp [State.store]
@[simp] theorem State.store_tmp2 (s : State) (l : Loc) (v : Byte) : (s.store l v).tmp2 = s.tmp2 := by simp [State.store]
@[simp] theorem State.store_tmp3 (s : State) (l : Loc) (v : Byte) : (s.store l v).tmp3 = s.tmp3 := by simp [State.store]
@[simp] theorem State.store_run (s : State) (l : Loc) (v : Byte) : (s.store l v).run = s.run := by simp [State.store]
@[simp] theorem State.store_iDelay (s : State) (l : Loc) (v : Byte) : (s.store l v).iDelay = s.iDelay := by simp [State.store]
@[simp] theorem State.store_wav (s : State) (l : Loc) (v : Byte) : (s.store l v).wav = s.wav := by simp [State.store]
@[simp] theorem State.store_inputs (s : State) (l : Loc) (v : Byte) : (s.store l v).inputs = s.inputs := by simp [State.store]
@[simp] theorem State.store_tick (s : State) (l : Loc) (v : Byte) : (s.store l v).tick = s.tick := by simp [State.store]
@[simp] theorem State.store_rtiFrame (s : State) (l : Loc) (v : Byte) : (s.store l v).rtiFrame = s.rtiFrame := by simp [State.store]

@[simp] theorem State.write8_cfg (s : State) (q : Word) (v : Byte) : (s.write8 q v).cfg = s.cfg := by simp [State.write8]
@[simp] theorem State.write8_a (s : State) (q : Word) (v : Byte) : (s.write8 q v).a = s.a := by simp [State.write8]
@[simp] theorem State.write8_b (s : State) (q : Word) (v : Byte) : (s.write8 q v).b = s.b := by simp [State.write8]
@[simp] theorem State.write8_x (s : State) (q : Word) (v : Byte) : (s.write8 q v).x = s.x := by simp [State.write8]
@[simp] theorem State.write8_y (s : State) (q : Word) (v : Byte) : (s.write8 q v).y = s.y := by simp [State.write8]
@[simp] theorem State.write8_sp (s : State) (q : Word) (v : Byte) : (s.write8 q v).sp = s.sp := by simp [State.write8]
@[simp] theorem State.write8_pc (s : State) (q : Word) (v : Byte) : (s.write8 q v).pc = s.pc := by simp [State.write8]
@[simp] theorem State.write8_ccr (s : State) (q : Word) (v : Byte) : (s.write8 q v).ccr = s.ccr := by simp [State.write8]
@[simp] theorem State.write8_ccrh (s : State) (q : Word) (v : Byte) : (s.write8 q v).ccrh = s.ccrh := by simp [State.write8]
@[simp] theorem State.write8_tmp1 (s : State) (q : Word) (v : Byte) : (s.write8 q v).tmp1 = s.tmp1 := by simp [State.write8]
@[simp] theorem State.write8_tmp2 (s : State) (q : Word) (v : Byte) : (s.write8 q v).tmp2 = s.tmp2 := by simp [State.write8]
@[simp] theorem State.write8_tmp3 (s : State) (q : Word) (v : Byte) : (s.write8 q v).tmp3 = s.tmp3 := by simp [State.write8]
@[simp] theorem State.write8_run (s : State) (q : Word) (v : Byte) : (s.write8 q v).run = s.run := by simp [State.write8]
@[simp] theorem State.write8_iDelay (s : State) (q : Word) (v : Byte) : (s.write8 q v).iDelay = s.iDelay := by simp [State.write8]
@[simp] theorem State.write8_wav (s : State) (q : Word) (v : Byte) : (s.write8 q v).wav = s.wav := by simp [State.write8]
@[simp] theorem State.write8_inputs (s : State) (q : Word) (v : Byte) : (s.write8 q v).inputs = s.inputs := by simp [State.write8]
@[simp] theorem State.write8_tick (s : State) (q : Word) (v : Byte) : (s.write8 q v).tick = s.tick := by simp [State.write8]
@[simp] theorem State.write8_rtiFrame (s : State) (q : Word) (v : Byte) : (s.write8 q v).rtiFrame = s.rtiFrame := by simp [State.write8]

@[simp] theorem State.write16_cfg (s : State) (q v : Word) : (s.write16 q v).cfg = s.cfg := by simp [State.write16]
@[simp] theorem State.write16_a (s : State) (q v : Word) : (s.write16 q v).a = s.a := by simp [State.write16]
@[simp] theorem State.write16_b (s : State) (q v : Word) : (s.write16 q v).b = s.b := by simp [State.write16]
@[simp] theorem State.write16_x (s : State) (q v : Word) : (s.write16 q v).x = s.x := by simp [State.write16]
@[simp] theorem State.write16_y (s : State) (q v : Word) : (s.write16 q v).y = s.y := by simp [State.write16]
@[simp] theorem State.write16_sp (s : State) (q v : Word) : (s.write16 q v).sp = s.sp := by simp [State.write16]
@[simp] theorem State.write16_pc (s : State) (q v : Word) : (s.write16 q v).pc = s.pc := by simp [State.write16]
@[simp] theorem State.write16_ccr (s : State) (q v : Word) : (s.write16 q v).ccr = s.ccr := by simp [State.write16]
@[simp] theorem State.write16_ccrh (s : State) (q v : Word) : (s.write16 q v).ccrh = s.ccrh := by simp [State.write16]
@[simp] theorem State.write16_tmp1 (s : State) (q v : Word) : (s.write16 q v).tmp1 = s.tmp1 := by simp [State.write16]
@[simp] theorem State.write16_tmp2 (s : State) (q v : Word) : (s.write16 q v).tmp2 = s.tmp2 := by simp [State.write16]
@[simp] theorem State.write16_tmp3 (s : State) (q v : Word) : (s.write16 q v).tmp3 = s.tmp3 := by simp [State.write16]
@[simp] theorem State.write16_run (s : State) (q v : Word) : (s.write16 q v).run = s.run := by simp [State.write16]
@[simp] theorem State.write16_iDelay (s : State) (q v : Word) : (s.write16 q v).iDelay = s.iDelay := by simp [State.write16]
@[simp] theorem State.write16_wav (s : State) (q v : Word) : (s.write16 q v).wav = s.wav := by simp [State.write16]
@[simp] theorem State.write16_inputs (s : State) (q v : Word) : (s.write16 q v).inputs = s.inputs := by simp [State.write16]
@[simp] theorem State.write16_tick (s : State) (q v : Word) : (s.write16 q v).tick = s.tick := by simp [State.write16]
@[simp] theorem State.write16_rtiFrame (s : State) (q v : Word) : (s.write16 q v).rtiFrame = s.rtiFrame := by simp [State.write16]

@[simp] theorem State.gwrite8_cfg (s : State) (p : BitVec 7) (q : Word) (v : Byte) : (s.gwrite8 p q v).cfg = s.cfg := by simp [State.gwrite8]
@[simp] theorem State.gwrite8_a (s : State) (p : BitVec 7) (q : Word) (v : Byte) : (s.gwrite8 p q v).a = s.a := by simp [State.gwrite8]
@[simp] theorem State.gwrite8_b (s : State) (p : BitVec 7) (q : Word) (v : Byte) : (s.gwrite8 p q v).b = s.b := by simp [State.gwrite8]
@[simp] theorem State.gwrite8_x (s : State) (p : BitVec 7) (q : Word) (v : Byte) : (s.gwrite8 p q v).x = s.x := by simp [State.gwrite8]
@[simp] theorem State.gwrite8_y (s : State) (p : BitVec 7) (q : Word) (v : Byte) : (s.gwrite8 p q v).y = s.y := by simp [State.gwrite8]
@[simp] theorem State.gwrite8_sp (s : State) (p : BitVec 7) (q : Word) (v : Byte) : (s.gwrite8 p q v).sp = s.sp := by simp [State.gwrite8]
@[simp] theorem State.gwrite8_pc (s : State) (p : BitVec 7) (q : Word) (v : Byte) : (s.gwrite8 p q v).pc = s.pc := by simp [State.gwrite8]
@[simp] theorem State.gwrite8_ccr (s : State) (p : BitVec 7) (q : Word) (v : Byte) : (s.gwrite8 p q v).ccr = s.ccr := by simp [State.gwrite8]
@[simp] theorem State.gwrite8_ccrh (s : State) (p : BitVec 7) (q : Word) (v : Byte) : (s.gwrite8 p q v).ccrh = s.ccrh := by simp [State.gwrite8]
@[simp] theorem State.gwrite8_tmp1 (s : State) (p : BitVec 7) (q : Word) (v : Byte) : (s.gwrite8 p q v).tmp1 = s.tmp1 := by simp [State.gwrite8]
@[simp] theorem State.gwrite8_tmp2 (s : State) (p : BitVec 7) (q : Word) (v : Byte) : (s.gwrite8 p q v).tmp2 = s.tmp2 := by simp [State.gwrite8]
@[simp] theorem State.gwrite8_tmp3 (s : State) (p : BitVec 7) (q : Word) (v : Byte) : (s.gwrite8 p q v).tmp3 = s.tmp3 := by simp [State.gwrite8]
@[simp] theorem State.gwrite8_run (s : State) (p : BitVec 7) (q : Word) (v : Byte) : (s.gwrite8 p q v).run = s.run := by simp [State.gwrite8]
@[simp] theorem State.gwrite8_iDelay (s : State) (p : BitVec 7) (q : Word) (v : Byte) : (s.gwrite8 p q v).iDelay = s.iDelay := by simp [State.gwrite8]
@[simp] theorem State.gwrite8_wav (s : State) (p : BitVec 7) (q : Word) (v : Byte) : (s.gwrite8 p q v).wav = s.wav := by simp [State.gwrite8]
@[simp] theorem State.gwrite8_inputs (s : State) (p : BitVec 7) (q : Word) (v : Byte) : (s.gwrite8 p q v).inputs = s.inputs := by simp [State.gwrite8]
@[simp] theorem State.gwrite8_tick (s : State) (p : BitVec 7) (q : Word) (v : Byte) : (s.gwrite8 p q v).tick = s.tick := by simp [State.gwrite8]
@[simp] theorem State.gwrite8_rtiFrame (s : State) (p : BitVec 7) (q : Word) (v : Byte) : (s.gwrite8 p q v).rtiFrame = s.rtiFrame := by simp [State.gwrite8]

@[simp] theorem State.gwrite16_cfg (s : State) (q v : Word) : (s.gwrite16 q v).cfg = s.cfg := by simp [State.gwrite16]
@[simp] theorem State.gwrite16_a (s : State) (q v : Word) : (s.gwrite16 q v).a = s.a := by simp [State.gwrite16]
@[simp] theorem State.gwrite16_b (s : State) (q v : Word) : (s.gwrite16 q v).b = s.b := by simp [State.gwrite16]
@[simp] theorem State.gwrite16_x (s : State) (q v : Word) : (s.gwrite16 q v).x = s.x := by simp [State.gwrite16]
@[simp] theorem State.gwrite16_y (s : State) (q v : Word) : (s.gwrite16 q v).y = s.y := by simp [State.gwrite16]
@[simp] theorem State.gwrite16_sp (s : State) (q v : Word) : (s.gwrite16 q v).sp = s.sp := by simp [State.gwrite16]
@[simp] theorem State.gwrite16_pc (s : State) (q v : Word) : (s.gwrite16 q v).pc = s.pc := by simp [State.gwrite16]
@[simp] theorem State.gwrite16_ccr (s : State) (q v : Word) : (s.gwrite16 q v).ccr = s.ccr := by simp [State.gwrite16]
@[simp] theorem State.gwrite16_ccrh (s : State) (q v : Word) : (s.gwrite16 q v).ccrh = s.ccrh := by simp [State.gwrite16]
@[simp] theorem State.gwrite16_tmp1 (s : State) (q v : Word) : (s.gwrite16 q v).tmp1 = s.tmp1 := by simp [State.gwrite16]
@[simp] theorem State.gwrite16_tmp2 (s : State) (q v : Word) : (s.gwrite16 q v).tmp2 = s.tmp2 := by simp [State.gwrite16]
@[simp] theorem State.gwrite16_tmp3 (s : State) (q v : Word) : (s.gwrite16 q v).tmp3 = s.tmp3 := by simp [State.gwrite16]
@[simp] theorem State.gwrite16_run (s : State) (q v : Word) : (s.gwrite16 q v).run = s.run := by simp [State.gwrite16]
@[simp] theorem State.gwrite16_iDelay (s : State) (q v : Word) : (s.gwrite16 q v).iDelay = s.iDelay := by simp [State.gwrite16]
@[simp] theorem State.gwrite16_wav (s : State) (q v : Word) : (s.gwrite16 q v).wav = s.wav := by simp [State.gwrite16]
@[simp] theorem State.gwrite16_inputs (s : State) (q v : Word) : (s.gwrite16 q v).inputs = s.inputs := by simp [State.gwrite16]
@[simp] theorem State.gwrite16_tick (s : State) (q v : Word) : (s.gwrite16 q v).tick = s.tick := by simp [State.gwrite16]
@[simp] theorem State.gwrite16_rtiFrame (s : State) (q v : Word) : (s.gwrite16 q v).rtiFrame = s.rtiFrame := by simp [State.gwrite16]

@[simp] theorem State.push8_cfg (s : State) (v : Byte) : (s.push8 v).cfg = s.cfg := by simp [State.push8]
@[simp] theorem State.push8_a (s : State) (v : Byte) : (s.push8 v).a = s.a := by simp [State.push8]
@[simp] theorem State.push8_b (s : State) (v : Byte) : (s.push8 v).b = s.b := by simp [State.push8]
@[simp] theorem State.push8_x (s : State) (v : Byte) : (s.push8 v).x = s.x := by simp [State.push8]
@[simp] theorem State.push8_y (s : State) (v : Byte) : (s.push8 v).y = s.y := by simp [State.push8]
@[simp] theorem State.push8_pc (s : State) (v : Byte) : (s.push8 v).pc = s.pc := by simp [State.push8]
@[simp] theorem State.push8_ccr (s : State) (v : Byte) : (s.push8 v).ccr = s.ccr := by simp [State.push8]
@[simp] theorem State.push8_ccrh (s : State) (v : Byte) : (s.push8 v).ccrh = s.ccrh := by simp [State.push8]
@[simp] theorem State.push8_tmp1 (s : State) (v : Byte) : (s.push8 v).tmp1 = s.tmp1 := by simp [State.push8]
@[simp] theorem State.push8_tmp2 (s : State) (v : Byte) : (s.push8 v).tmp2 = s.tmp2 := by simp [State.push8]
@[simp] theorem State.push8_tmp3 (s : State) (v : Byte) : (s.push8 v).tmp3 = s.tmp3 := by simp [State.push8]
@[simp] theorem State.push8_run (s : State) (v : Byte) : (s.push8 v).run = s.run := by simp [State.push8]
@[simp] theorem State.push8_iDelay (s : State) (v : Byte) : (s.push8 v).iDelay = s.iDelay := by simp [State.push8]
@[simp] theorem State.push8_wav (s : State) (v : Byte) : (s.push8 v).wav = s.wav := by simp [State.push8]
@[simp] theorem State.push8_inputs (s : State) (v : Byte) : (s.push8 v).inputs = s.inputs := by simp [State.push8]
@[simp] theorem State.push8_tick (s : State) (v : Byte) : (s.push8 v).tick = s.tick := by simp [State.push8]
@[simp] theorem State.push8_rtiFrame (s : State) (v : Byte) : (s.push8 v).rtiFrame = s.rtiFrame := by simp [State.push8]

@[simp] theorem State.push16_cfg (s : State) (v : Word) : (s.push16 v).cfg = s.cfg := by simp [State.push16]
@[simp] theorem State.push16_a (s : State) (v : Word) : (s.push16 v).a = s.a := by simp [State.push16]
@[simp] theorem State.push16_b (s : State) (v : Word) : (s.push16 v).b = s.b := by simp [State.push16]
@[simp] theorem State.push16_x (s : State) (v : Word) : (s.push16 v).x = s.x := by simp [State.push16]
@[simp] theorem State.push16_y (s : State) (v : Word) : (s.push16 v).y = s.y := by simp [State.push16]
@[simp] theorem State.push16_pc (s : State) (v : Word) : (s.push16 v).pc = s.pc := by simp [State.push16]
@[simp] theorem State.push16_ccr (s : State) (v : Word) : (s.push16 v).ccr = s.ccr := by simp [State.push16]
@[simp] theorem State.push16_ccrh (s : State) (v : Word) : (s.push16 v).ccrh = s.ccrh := by simp [State.push16]
@[simp] theorem State.push16_tmp1 (s : State) (v : Word) : (s.push16 v).tmp1 = s.tmp1 := by simp [State.push16]
@[simp] theorem State.push16_tmp2 (s : State) (v : Word) : (s.push16 v).tmp2 = s.tmp2 := by simp [State.push16]
@[simp] theorem State.push16_tmp3 (s : State) (v : Word) : (s.push16 v).tmp3 = s.tmp3 := by simp [State.push16]
@[simp] theorem State.push16_run (s : State) (v : Word) : (s.push16 v).run = s.run := by simp [State.push16]
@[simp] theorem State.push16_iDelay (s : State) (v : Word) : (s.push16 v).iDelay = s.iDelay := by simp [State.push16]
@[simp] theorem State.push16_wav (s : State) (v : Word) : (s.push16 v).wav = s.wav := by simp [State.push16]
@[simp] theorem State.push16_inputs (s : State) (v : Word) : (s.push16 v).inputs = s.inputs := by simp [State.push16]
@[simp] theorem State.push16_tick (s : State) (v : Word) : (s.push16 v).tick = s.tick := by simp [State.push16]
@[simp] theorem State.push16_rtiFrame (s : State) (v : Word) : (s.push16 v).rtiFrame = s.rtiFrame := by simp [State.push16]

@[simp] theorem State.push8_sp (s : State) (v : Byte) : (s.push8 v).sp = s.sp - 1#16 := by simp [State.push8]
@[simp] theorem State.push16_sp (s : State) (v : Word) : (s.push16 v).sp = s.sp - 2#16 := by simp [State.push16]

/-! ## What a byte reads as -/

/-- The bit of GPAGE's byte that is no state depends on the tick alone. -/
theorem State.gpageByte_of_tick {s t : State} (h : t.tick = s.tick) (page : BitVec 7) :
    t.gpageByte page = s.gpageByte page := by
  rw [State.gpageByte, State.gpageByte, h]

/-- The other seven bits of GPAGE's byte are GPAGE. -/
@[simp] theorem State.gpageByte_low (s : State) (page : BitVec 7) : (s.gpageByte page).extractLsb' 0 7 = page := by
  rw [State.gpageByte]
  exact BitVec.extractLsb'_append_eq_right

/-- After a store, the location stored to. -/
theorem State.peek_poke_same (s : State) (l : Loc) (v : Byte) : (s.poke l v).peek l = s.kept l v := by
  cases l <;> simp only [State.poke, State.kept, State.peek]
  case cell k =>
    split
    · exact Mem.get_set_same _ _ _
    · rfl
  case ppage => split <;> rfl
  all_goals rfl

/-- After a store, every other location. -/
theorem State.peek_poke_other (s : State) {l j : Loc} (v : Byte) (h : j ≠ l) : (s.poke l v).peek j = s.peek j := by
  cases l
  case cell k =>
    simp only [State.poke]
    split
    · cases j
      case cell k' => exact Mem.get_set_other _ _ fun e => h (e ▸ rfl)
      all_goals rfl
    · rfl
  case ppage =>
    simp only [State.poke]
    cases j
    case ppage => exact absurd rfl h
    all_goals split <;> rfl
  all_goals
    cases j
    all_goals first | rfl | exact absurd rfl h

/-- Marking what is queued changes no byte. -/
@[simp] theorem State.peek_markStale (s : State) (l j : Loc) : (s.markStale l).peek j = s.peek j := by
  cases j <;> rfl

/-- Marking what is queued moves no location. -/
@[simp] theorem State.locate_markStale (s : State) (l : Loc) (b : Word) : (s.markStale l).locate b = s.locate b := rfl

/-- What a location holds after a store does not depend on what is queued. -/
@[simp] theorem State.kept_markStale (s : State) (l j : Loc) (v : Byte) : (s.markStale l).kept j v = s.kept j v := by
  cases j <;> rfl

/-- After a byte is stored, the location stored to. -/
theorem State.peek_store_same (s : State) (l : Loc) (v : Byte) : (s.store l v).peek l = s.kept l v := by
  rw [State.store, State.peek_poke_same, State.kept_markStale]

/-- After a byte is stored, every other location. -/
theorem State.peek_store_other (s : State) {l j : Loc} (v : Byte) (h : j ≠ l) : (s.store l v).peek j = s.peek j := by
  rw [State.store, State.peek_poke_other _ _ h, State.peek_markStale]

/-- After a byte is stored in plain memory, every location. -/
theorem State.peek_store_cell {s : State} {k : Nat} (hw : s.cfg.phys.writable k = true) (l : Loc) (v : Byte) :
    (s.store (.cell k) v).peek l = if l = .cell k then v else s.peek l := by
  split
  · next e => rw [e, State.peek_store_same, State.kept, if_pos hw]
  · next e => exact State.peek_store_other _ _ e

/-- After a byte is stored at an address, the location of the address. -/
theorem State.peek_write8_same (s : State) (a : Word) (v : Byte) :
    (s.write8 a v).peek (s.locate a) = s.kept (s.locate a) v :=
  State.peek_store_same _ _ _

/-- After a byte is stored at an address, every other location. -/
theorem State.peek_write8_other (s : State) (a : Word) (v : Byte) {l : Loc} (h : l ≠ s.locate a) :
    (s.write8 a v).peek l = s.peek l :=
  State.peek_store_other _ _ h

/-- After a word is stored, every location but those of its two bytes. -/
theorem State.peek_write16_other (s : State) (a v : Word) {l : Loc} (h : l ≠ s.locate a)
    (h1 : l ≠ (s.write8 a (hiByte v)).locate (a + 1#16)) : (s.write16 a v).peek l = s.peek l := by
  rw [State.write16, State.peek_write8_other _ _ _ h1, State.peek_write8_other _ _ _ h]

/-- After a byte is stored in global memory, every other location. -/
theorem State.peek_gwrite8_other (s : State) (p : BitVec 7) (a : Word) (v : Byte) {l : Loc}
    (h : l ≠ s.locAt (globalKey p a)) : (s.gwrite8 p a v).peek l = s.peek l :=
  State.peek_store_other _ _ h

/-! ## States that read alike -/

/-- The fields a read depends on. -/
def State.bus (s : State) : Cfg × Byte × BitVec 7 × Byte × Byte × Mem × Nat :=
  (s.cfg, s.ppage, s.gpage, s.direct, s.vectorBase, s.mem, s.tick)

/-- States with one bus read every location alike. -/
theorem State.peek_of_bus {s t : State} (h : t.bus = s.bus) (l : Loc) : t.peek l = s.peek l := by
  simp only [State.bus, Prod.mk.injEq] at h
  obtain ⟨_, h1, h2, h3, h4, h5, h6⟩ := h
  cases l <;> simp [State.peek, State.gpageByte_of_tick h6, *]

/-- What lies behind an access depends on the parameters alone. -/
theorem State.locAt_of_cfg {s t : State} (h : t.cfg = s.cfg) (k : Nat) : t.locAt k = s.locAt k := by
  unfold State.locAt
  rw [h]

/-- States with one bus find every address at one place. -/
theorem State.locate_of_bus {s t : State} (h : t.bus = s.bus) (a : Word) : t.locate a = s.locate a := by
  simp only [State.bus, Prod.mk.injEq] at h
  obtain ⟨h0, h1, _⟩ := h
  have hk : t.localKey a = s.localKey a := by unfold State.localKey; rw [h0, h1]
  rw [State.locate, State.locate, hk, State.locAt_of_cfg h0]

/-- States with one bus read every address alike. -/
theorem State.read8_of_bus {s t : State} (h : t.bus = s.bus) (a : Word) : t.read8 a = s.read8 a := by
  rw [State.read8, State.read8, State.locate_of_bus h, State.peek_of_bus h]

/-- States with one bus read every word alike. -/
theorem State.read16_of_bus {s t : State} (h : t.bus = s.bus) (a : Word) : t.read16 a = s.read16 a := by
  rw [State.read16, State.read16, State.read8_of_bus h, State.read8_of_bus h]

/-! ## Where addresses lie -/

/-- A map without regions takes every access to its own number. -/
theorem Phys.physical_nil {p : Phys} (h : p.regions = []) (k : Nat) : p.physical k = k := by
  unfold Phys.physical
  rw [h]
  rfl

/-- A map keeps the place of a byte in its block of sixteen. -/
theorem Phys.physical_mod (p : Phys) (k : Nat) : p.physical k % 16 = k % 16 := by
  unfold Phys.physical
  split <;> omega

/-- The number of an access to a local address has the place of the address in its block. -/
theorem State.localKey_mod (s : State) (a : Word) : s.localKey a % 16 = a.toNat % 16 := by
  unfold State.localKey inWindow windowBase
  split
  · simp_all
    omega
  · rfl

/-- The number of an access to a global address has the place of the address in its block. -/
theorem globalKey_mod (p : BitVec 7) (a : Word) : globalKey p a % 16 = a.toNat % 16 := by
  unfold globalKey globalBase
  omega

/-- What lies behind an access, case by case: a register at its physical address, or that physical address. -/
theorem State.locAt_cases (s : State) (k : Nat) :
    (s.cfg.phys.ppageAt = some (s.cfg.phys.physical k) ∧ s.locAt k = .ppage) ∨
      (s.cfg.phys.gpageAt = some (s.cfg.phys.physical k) ∧ s.locAt k = .gpage) ∨
      (s.cfg.phys.directAt = some (s.cfg.phys.physical k) ∧ s.locAt k = .direct) ∨
      (s.cfg.phys.vectorBaseAt = some (s.cfg.phys.physical k) ∧ s.locAt k = .vectorBase) ∨
      (s.locAt k = .cell (s.cfg.phys.physical k) ∨ s.locAt k = .void (s.cfg.phys.physical k) ∨
        s.locAt k = .device (s.cfg.phys.physical k)) := by
  simp only [State.locAt]
  by_cases h1 : s.cfg.phys.ppageAt = some (s.cfg.phys.physical k)
  · exact .inl ⟨h1, if_pos h1⟩
  rw [if_neg h1]
  by_cases h2 : (s.cfg.version.isX && s.cfg.phys.gpageAt == some (s.cfg.phys.physical k)) = true
  · exact .inr (.inl ⟨by simp_all, if_pos h2⟩)
  rw [if_neg h2]
  by_cases h3 : (s.cfg.version.isX && s.cfg.phys.directAt == some (s.cfg.phys.physical k)) = true
  · exact .inr (.inr (.inl ⟨by simp_all, if_pos h3⟩))
  rw [if_neg h3]
  by_cases h4 : (s.cfg.version.isX && s.cfg.phys.vectorBaseAt == some (s.cfg.phys.physical k)) = true
  · exact .inr (.inr (.inr (.inl ⟨by simp_all, if_pos h4⟩)))
  rw [if_neg h4]
  refine .inr (.inr (.inr (.inr ?_)))
  split <;> simp

/-- Accesses with one location have one physical address. -/
theorem State.locAt_inj {s : State} {k j : Nat} (h : s.locAt k = s.locAt j) :
    s.cfg.phys.physical k = s.cfg.phys.physical j := by
  rcases s.locAt_cases k with ⟨hk, hk'⟩ | ⟨hk, hk'⟩ | ⟨hk, hk'⟩ | ⟨hk, hk'⟩ | hk' | hk' | hk' <;>
    rcases s.locAt_cases j with ⟨hj, hj'⟩ | ⟨hj, hj'⟩ | ⟨hj, hj'⟩ | ⟨hj, hj'⟩ | hj' | hj' | hj' <;>
    simp_all

/-- Accesses with one location have one place in their blocks. -/
theorem State.locAt_mod {s : State} {k j : Nat} (h : s.locAt k = s.locAt j) : k % 16 = j % 16 := by
  rw [← s.cfg.phys.physical_mod k, ← s.cfg.phys.physical_mod j, State.locAt_inj h]

/-- Addresses with one location have one place in their blocks, under whatever pages. -/
theorem State.locate_mod {s t : State} (hc : t.cfg = s.cfg) {a b : Word} (h : t.locate a = s.locate b) :
    a.toNat % 16 = b.toNat % 16 := by
  rw [State.locate, State.locAt_of_cfg hc] at h
  rw [← t.localKey_mod a, ← s.localKey_mod b, State.locAt_mod h]

/-- Two addresses less than a block apart that lie at one location are one address. -/
theorem State.locate_near {s t : State} (hc : t.cfg = s.cfg) {a b : Word} (h : t.locate a = s.locate b)
    (hn : (a - b).toNat < 16) : a = b := by
  have := State.locate_mod hc h
  bv_omega

/-- The second byte of a word does not lie where the first does. -/
theorem State.locate_second_ne (s : State) (a : Word) (v : Byte) :
    (s.write8 a v).locate (a + 1#16) ≠ s.locate a := by
  intro h
  have := State.locate_mod (by simp) h
  bv_omega

/-- A store elsewhere than to PPAGE moves no location. -/
theorem State.locate_poke {s : State} {l : Loc} (h : l ≠ .ppage) (v : Byte) (b : Word) :
    (s.poke l v).locate b = s.locate b := by
  cases l
  case ppage => exact absurd rfl h
  case cell k =>
    simp only [State.poke]
    split <;> rfl
  all_goals rfl

/-- A store elsewhere than to PPAGE moves no location. -/
theorem State.locate_store {s : State} {l : Loc} (h : l ≠ .ppage) (v : Byte) (b : Word) :
    (s.store l v).locate b = s.locate b := by
  rw [State.store, State.locate_poke h, State.locate_markStale]

/-- No store moves an address outside the program window of an expanded map. -/
theorem State.locate_store_outside {s : State} {b : Word} (h : (s.cfg.phys.expanded && inWindow b) = false) (l : Loc)
    (v : Byte) : (s.store l v).locate b = s.locate b := by
  have hk : (s.store l v).localKey b = s.localKey b := by
    simp only [State.localKey, State.store_cfg, h, Bool.false_eq_true, if_false]
  rw [State.locate, State.locate, hk, State.locAt_of_cfg (State.store_cfg _ _ _)]

/-! ## What a store marks -/

/-- The eight addresses from `a` on. -/
theorem mem_eightFrom (a q : Word) : q ∈ eightFrom a ↔ (q - a).toNat < 8 := by
  unfold eightFrom
  simp only [List.mem_map, List.mem_range]
  constructor
  · rintro ⟨k, hk, rfl⟩
    bv_omega
  · intro h
    exact ⟨(q - a).toNat, h, by bv_omega⟩

/-- What a store marks as no longer what the queue holds. -/
theorem State.mem_store_stale (s : State) (l : Loc) (v : Byte) (q : Word) :
    q ∈ (s.store l v).stale ↔ q ∈ s.stale ∨ ((q - s.pc).toNat < 8 ∧
      (s.locate q = l ∨ (s.cfg.phys.expanded = true ∧ l = .ppage ∧ inWindow q = true))) := by
  have hm : ∀ x, x ∈ (s.markStale l).stale ↔ x ∈ s.stale ∨ ((x - s.pc).toNat < 8 ∧ s.locate x = l) := by
    intro x
    simp [State.markStale, mem_eightFrom, or_comm]
  cases l
  case ppage =>
    cases he : s.cfg.phys.expanded with
    | true =>
      simp only [State.store, State.poke, State.markStale_cfg, he, if_true, State.setPageStored_stale,
        State.setStale_stale, List.mem_append, List.mem_filter, mem_eightFrom, State.markStale_pc, hm]
      simp only [true_and]
      tauto
    | false => simp [State.store, State.poke, he, hm]
  case cell k =>
    have : ((s.markStale (.cell k)).poke (.cell k) v).stale = (s.markStale (.cell k)).stale := by
      simp only [State.poke]
      split <;> rfl
    simp [State.store, this, hm]
  all_goals simp [State.store, State.poke, hm]

/-- Whether a store leaves it recorded that PPAGE was stored to. -/
theorem State.store_pageStored (s : State) (l : Loc) (v : Byte) :
    (s.store l v).pageStored = true ↔ s.pageStored = true ∨ (s.cfg.phys.expanded = true ∧ l = .ppage) := by
  cases l
  case ppage => cases he : s.cfg.phys.expanded <;> simp [State.store, State.poke, he]
  case cell k =>
    simp only [State.store, State.poke]
    split <;> simp
  all_goals simp [State.store, State.poke]

/-- A store of one byte marks what it should. -/
theorem State.marked_store (s : State) (l : Loc) (v : Byte) : s.marked (s.store l v) [l] := by
  refine ⟨fun q => (s.mem_store_stale l v q).trans ?_, (s.store_pageStored l v).trans ?_⟩
  · simp only [List.mem_singleton]
    tauto
  · rw [List.mem_singleton, @eq_comm _ Loc.ppage]

/-- The two fields that stores mark. -/
def State.marks (s : State) : List Word × Bool := (s.stale, s.pageStored)

/-- The marks are the two fields. -/
theorem State.marks_eq {s t : State} : t.marks = s.marks ↔ t.stale = s.stale ∧ t.pageStored = s.pageStored := by
  simp [State.marks]

/-- Marks seen from states that agree on what marking depends on. -/
theorem State.marked_congr {s s1 t t1 : State} {l : List Loc} (h : s1.marked t1 l) (hb : s1.bus = s.bus)
    (hp : s1.pc = s.pc) (hs : s1.marks = s.marks) (ht : t.marks = t1.marks) : s.marked t l := by
  obtain ⟨e1, e2⟩ := State.marks_eq.mp hs
  obtain ⟨f1, f2⟩ := State.marks_eq.mp ht
  have hc : s1.cfg = s.cfg := (Prod.mk.inj hb).1
  have hl := State.locate_of_bus hb
  unfold State.marked at h ⊢
  simp only [hc, hp, e1, e2, hl] at h
  rw [f1, f2]
  exact h

/-- Nothing stored, nothing marked. -/
theorem State.marked_nil {s t : State} (h : t.marks = s.marks) : s.marked t [] := by
  obtain ⟨h1, h2⟩ := State.marks_eq.mp h
  simp [State.marked, h1, h2]

/-- Marks of stores one after the other. -/
theorem State.marked_trans {s t u : State} {p q : List Loc} (hc : t.cfg = s.cfg) (hp : t.pc = s.pc)
    (hl : ∀ b, (s.cfg.phys.expanded = true ∧ inWindow b = true ∧ .ppage ∈ p) ∨ t.locate b = s.locate b)
    (h1 : s.marked t p) (h2 : t.marked u q) : s.marked u (p ++ q) := by
  refine ⟨fun a => (h2.1 a).trans ?_, h2.2.trans ?_⟩
  · rw [h1.1 a, hc, hp]
    rcases hl a with ⟨e1, e2, e3⟩ | e
    · simp only [List.mem_append, e1, e2, e3]
      tauto
    · simp only [List.mem_append, e]
      tauto
  · rw [h1.2, hc]
    simp only [List.mem_append]
    tauto

/-- A store moves an address only in the window of an expanded map, and only as a store to PPAGE. -/
theorem State.locate_store_or (s : State) (l : Loc) (v : Byte) (b : Word) :
    (s.cfg.phys.expanded = true ∧ inWindow b = true ∧ .ppage ∈ [l]) ∨ (s.store l v).locate b = s.locate b := by
  by_cases h : (s.cfg.phys.expanded && inWindow b) = false
  · exact .inr (State.locate_store_outside h l v)
  · by_cases hl : l = .ppage
    · left
      simp_all
    · exact .inr (State.locate_store hl v b)

/-- Two stores mark what both should. -/
theorem State.marked_store_store (s : State) (l j : Loc) (v w : Byte) :
    s.marked ((s.store l v).store j w) [l, j] :=
  State.marked_trans (by simp) (by simp) (s.locate_store_or l v) (s.marked_store l v) (State.marked_store _ j w)

/-- A byte stored at an address marks what it should. -/
theorem State.marked_write8 (s : State) (a : Word) (v : Byte) : s.marked (s.write8 a v) [s.locate a] :=
  s.marked_store _ v

/-- A word stored at an address marks what it should. -/
theorem State.marked_write16 (s : State) (a v : Word) : s.marked (s.write16 a v) (s.wordLocs a v) :=
  s.marked_store_store _ _ _ _

end Sys2Proof.Machine
end

