-- ==== Sys2Proof/Laws/Alu.lean ====
section
/-!
SUPPORT. The Boolean flag formulas of the machine against exact integer arithmetic: one lemma per operation of the
arithmetic and logic unit.
-/

namespace Sys2Proof.Machine

/-! ## Numbers of a bit vector -/

/-- The top bit of a byte as a bound. -/
theorem msb_byte (p : Byte) : p.msb = decide (128 ≤ p.toNat) := by simp [BitVec.msb_eq_decide]

/-- The top bit of a word as a bound. -/
theorem msb_word (p : Word) : p.msb = decide (32768 ≤ p.toNat) := by simp [BitVec.msb_eq_decide]

/-- A signed byte by its top bit. -/
theorem toInt_byte (p : Byte) : p.toInt = if 128 ≤ p.toNat then (p.toNat : Int) - 256 else p.toNat := by
  rw [BitVec.toInt_eq_toNat_cond]; split <;> split <;> omega

/-- A signed word by its top bit. -/
theorem toInt_word (p : Word) : p.toInt = if 32768 ≤ p.toNat then (p.toNat : Int) - 65536 else p.toNat := by
  rw [BitVec.toInt_eq_toNat_cond]; split <;> split <;> omega

/-- The number of a byte made from an integer. -/
theorem toNat_ofInt_byte (v : Int) : ((BitVec.ofInt 8 v).toNat : Int) = v % 256 := by
  rw [BitVec.toNat_ofInt]; omega

/-- The number of a word made from an integer. -/
theorem toNat_ofInt_word (v : Int) : ((BitVec.ofInt 16 v).toNat : Int) = v % 65536 := by
  rw [BitVec.toNat_ofInt]; omega

/-- Equality with zero, as the machine writes it and as claims write it. -/
theorem beq_zero {n : Nat} (r : BitVec n) : (r == 0) = decide (r = 0) := rfl

/-! ## Addition -/

/-- The carry added is the flag as a number. -/
theorem toNat_carryIn_byte (c : Bool) : (carryIn 8 c).toNat = c.toNat := by cases c <;> rfl

/-- The carry added is the flag as a number. -/
theorem toNat_carryIn_word (c : Bool) : (carryIn 16 c).toNat = c.toNat := by cases c <;> rfl

/-- A sum of bytes is the exact sum in eight bits. -/
theorem add_byte (p q : Byte) (c : Bool) : p + q + carryIn 8 c = addedValue p q c := by
  apply BitVec.eq_of_toNat_eq
  simp only [addedValue, exactSum, BitVec.toNat_add, toNat_carryIn_byte, BitVec.toNat_ofNat]
  omega

/-- A sum of words is the exact sum in sixteen bits. -/
theorem add_word (p q : Word) (c : Bool) : p + q + carryIn 16 c = addedValue p q c := by
  apply BitVec.eq_of_toNat_eq
  simp only [addedValue, exactSum, BitVec.toNat_add, toNat_carryIn_word, BitVec.toNat_ofNat]
  omega

/-- The number of a sum of bytes. -/
theorem toNat_addedValue_byte (p q : Byte) (c : Bool) :
    (addedValue p q c).toNat = (p.toNat + q.toNat + c.toNat) % 256 := by
  simp only [addedValue, exactSum, BitVec.toNat_ofNat]

/-- The number of a sum of words. -/
theorem toNat_addedValue_word (p q : Word) (c : Bool) :
    (addedValue p q c).toNat = (p.toNat + q.toNat + c.toNat) % 65536 := by
  simp only [addedValue, exactSum, BitVec.toNat_ofNat]

/-- The carry formula is a sum that does not fit unsigned. -/
theorem carryAdd_byte (p q : Byte) (c : Bool) :
    carryAdd p q (addedValue p q c) = decide (2 ^ 8 ≤ exactSum p q c) := by
  have := p.isLt; have := q.isLt; have := c.toNat_le
  rw [Bool.eq_iff_iff, decide_eq_true_eq]
  simp only [carryAdd, msb_byte, toNat_addedValue_byte, exactSum]
  simp only [Bool.or_eq_true, Bool.and_eq_true, Bool.not_eq_true', decide_eq_true_eq, decide_eq_false_iff_not]
  omega

/-- The carry formula is a sum that does not fit unsigned. -/
theorem carryAdd_word (p q : Word) (c : Bool) :
    carryAdd p q (addedValue p q c) = decide (2 ^ 16 ≤ exactSum p q c) := by
  have := p.isLt; have := q.isLt; have := c.toNat_le
  rw [Bool.eq_iff_iff, decide_eq_true_eq]
  simp only [carryAdd, msb_word, toNat_addedValue_word, exactSum]
  simp only [Bool.or_eq_true, Bool.and_eq_true, Bool.not_eq_true', decide_eq_true_eq, decide_eq_false_iff_not]
  omega

/-- The overflow formula is a sum that does not fit signed. -/
theorem overflowAdd_byte (p q : Byte) (c : Bool) :
    overflowAdd p q (addedValue p q c) = outOfRange 8 (p.toInt + q.toInt + c.toNat) := by
  have := p.isLt; have := q.isLt; have := c.toNat_le
  rw [Bool.eq_iff_iff]
  simp only [overflowAdd, outOfRange, msb_byte, toNat_addedValue_byte, toInt_byte]
  simp only [Bool.or_eq_true, Bool.and_eq_true, Bool.not_eq_true', decide_eq_true_eq, decide_eq_false_iff_not]
  split <;> split <;> omega

/-- The overflow formula is a sum that does not fit signed. -/
theorem overflowAdd_word (p q : Word) (c : Bool) :
    overflowAdd p q (addedValue p q c) = outOfRange 16 (p.toInt + q.toInt + c.toNat) := by
  have := p.isLt; have := q.isLt; have := c.toNat_le
  rw [Bool.eq_iff_iff]
  simp only [overflowAdd, outOfRange, msb_word, toNat_addedValue_word, toInt_word]
  simp only [Bool.or_eq_true, Bool.and_eq_true, Bool.not_eq_true', decide_eq_true_eq, decide_eq_false_iff_not]
  split <;> split <;> omega

/-- Bit 3 of a byte as a number. -/
theorem bit3_byte (p : Byte) : p.getLsbD 3 = decide (8 ≤ p.toNat % 16) := by
  have h : ∀ p : Byte, p.getLsbD 3 = decide (8 ≤ p.toNat % 16) := by decide +revert
  exact h p

/-- The half carry formula is a sum of the low digits that does not fit in four bits. -/
theorem halfAdd_byte (p q : Byte) (c : Bool) : halfAdd p q (addedValue p q c) = addedHalf p q c := by
  have := p.isLt; have := q.isLt; have := c.toNat_le
  rw [Bool.eq_iff_iff]
  simp only [halfAdd, addedHalf, bit3_byte, toNat_addedValue_byte]
  simp only [Bool.or_eq_true, Bool.and_eq_true, Bool.not_eq_true', decide_eq_true_eq, decide_eq_false_iff_not]
  omega

/-- 8-bit addition in exact arithmetic. -/
theorem aluAdd8_exact (w : Bool) (f : Ccr) (p q : Byte) :
    aluAdd8 w f p q = (addedValue p q (w && f.c),
      { addedCcr f p q (w && f.c) with h := addedHalf p q (w && f.c) }) := by
  simp only [aluAdd8, add_byte, halfAdd_byte, overflowAdd_byte, carryAdd_byte, addedCcr, beq_zero]

/-- 16-bit addition in exact arithmetic. -/
theorem aluAdd16_plain (f : Ccr) (p q : Word) :
    aluAdd16 false f p q = (addedValue p q false, addedCcr f p q false) := by
  simp only [aluAdd16, Bool.false_and, add_word, overflowAdd_word, carryAdd_word, addedCcr, zeroFlag, Bool.false_eq_true,
    if_false, beq_zero]

/-- 16-bit addition with carry and sticky Z in exact arithmetic. -/
theorem aluAdd16_extended (f : Ccr) (p q : Word) :
    aluAdd16 true f p q = (addedValue p q f.c, stickyZ f (addedCcr f p q f.c)) := by
  simp only [aluAdd16, Bool.true_and, if_true, add_word, overflowAdd_word, carryAdd_word, addedCcr, stickyZ, zeroFlag, beq_zero]

/-! ## Subtraction -/

/-- A difference of bytes is the exact difference in eight bits. -/
theorem sub_byte (p q : Byte) (c : Bool) : p - q - carryIn 8 c = subtractedValue p q c := by
  have := p.isLt; have := q.isLt; have := c.toNat_le
  apply BitVec.eq_of_toNat_eq
  have h := toNat_ofInt_byte ((p.toNat : Int) - q.toNat - c.toNat)
  simp only [subtractedValue, BitVec.toNat_sub, toNat_carryIn_byte]
  omega

/-- A difference of words is the exact difference in sixteen bits. -/
theorem sub_word (p q : Word) (c : Bool) : p - q - carryIn 16 c = subtractedValue p q c := by
  have := p.isLt; have := q.isLt; have := c.toNat_le
  apply BitVec.eq_of_toNat_eq
  have h := toNat_ofInt_word ((p.toNat : Int) - q.toNat - c.toNat)
  simp only [subtractedValue, BitVec.toNat_sub, toNat_carryIn_word]
  omega

/-- The borrow formula is a subtrahend that is greater. -/
theorem borrowSub_byte (p q : Byte) (c : Bool) :
    borrowSub p q (subtractedValue p q c) = decide (p.toNat < q.toNat + c.toNat) := by
  have := p.isLt; have := q.isLt; have := c.toNat_le
  have h := toNat_ofInt_byte ((p.toNat : Int) - q.toNat - c.toNat)
  rw [Bool.eq_iff_iff]
  simp only [borrowSub, msb_byte, subtractedValue]
  simp only [Bool.or_eq_true, Bool.and_eq_true, Bool.not_eq_true', decide_eq_true_eq, decide_eq_false_iff_not]
  omega

/-- The borrow formula is a subtrahend that is greater. -/
theorem borrowSub_word (p q : Word) (c : Bool) :
    borrowSub p q (subtractedValue p q c) = decide (p.toNat < q.toNat + c.toNat) := by
  have := p.isLt; have := q.isLt; have := c.toNat_le
  have h := toNat_ofInt_word ((p.toNat : Int) - q.toNat - c.toNat)
  rw [Bool.eq_iff_iff]
  simp only [borrowSub, msb_word, subtractedValue]
  simp only [Bool.or_eq_true, Bool.and_eq_true, Bool.not_eq_true', decide_eq_true_eq, decide_eq_false_iff_not]
  omega

/-- The overflow formula is a difference that does not fit signed. -/
theorem overflowSub_byte (p q : Byte) (c : Bool) :
    overflowSub p q (subtractedValue p q c) = outOfRange 8 (p.toInt - q.toInt - c.toNat) := by
  have := p.isLt; have := q.isLt; have := c.toNat_le
  have h := toNat_ofInt_byte ((p.toNat : Int) - q.toNat - c.toNat)
  rw [Bool.eq_iff_iff]
  simp only [overflowSub, outOfRange, msb_byte, subtractedValue, toInt_byte]
  simp only [Bool.or_eq_true, Bool.and_eq_true, Bool.not_eq_true', decide_eq_true_eq, decide_eq_false_iff_not]
  split <;> split <;> omega

/-- The overflow formula is a difference that does not fit signed. -/
theorem overflowSub_word (p q : Word) (c : Bool) :
    overflowSub p q (subtractedValue p q c) = outOfRange 16 (p.toInt - q.toInt - c.toNat) := by
  have := p.isLt; have := q.isLt; have := c.toNat_le
  have h := toNat_ofInt_word ((p.toNat : Int) - q.toNat - c.toNat)
  rw [Bool.eq_iff_iff]
  simp only [overflowSub, outOfRange, msb_word, subtractedValue, toInt_word]
  simp only [Bool.or_eq_true, Bool.and_eq_true, Bool.not_eq_true', decide_eq_true_eq, decide_eq_false_iff_not]
  split <;> split <;> omega

/-- 8-bit subtraction in exact arithmetic. -/
theorem aluSub8_exact (w : Bool) (f : Ccr) (p q : Byte) :
    aluSub w false f p q = (subtractedValue p q (w && f.c), subtractedCcr f p q (w && f.c)) := by
  simp only [aluSub, sub_byte, overflowSub_byte, borrowSub_byte, subtractedCcr, zeroFlag, beq_zero,
    Bool.false_eq_true, if_false]

/-- 16-bit subtraction in exact arithmetic. -/
theorem aluSub16_plain (f : Ccr) (p q : Word) :
    aluSub false false f p q = (subtractedValue p q false, subtractedCcr f p q false) := by
  simp only [aluSub, Bool.false_and, sub_word, overflowSub_word, borrowSub_word, subtractedCcr, zeroFlag, beq_zero,
    Bool.false_eq_true, if_false]

/-- 16-bit subtraction with borrow and sticky Z in exact arithmetic. -/
theorem aluSub16_extended (f : Ccr) (p q : Word) :
    aluSub true true f p q = (subtractedValue p q f.c, stickyZ f (subtractedCcr f p q f.c)) := by
  simp only [aluSub, Bool.true_and, sub_word, overflowSub_word, borrowSub_word, subtractedCcr, stickyZ, zeroFlag,
    beq_zero, if_true]

/-! ## Operations on one operand -/

/-- Two bytes with one number are equal. -/
theorem byte_eq {p q : Byte} (h : (p.toNat : Int) = q.toNat) : p = q := BitVec.eq_of_toNat_eq (by omega)

/-- Two words with one number are equal. -/
theorem word_eq {p q : Word} (h : (p.toNat : Int) = q.toNat) : p = q := BitVec.eq_of_toNat_eq (by omega)

/-- aluDec on a byte in exact arithmetic. -/
theorem aluDec_byte (f : Ccr) (p : Byte) : aluDec f p = (Unary.dec.value f p, Unary.dec.flags f p) := by
  have hp := p.isLt
  have hv : p - 1 = Unary.dec.value f p := byte_eq (by
    rw [Unary.value, toNat_ofInt_byte, toInt_byte, BitVec.toNat_sub]
    simp only [BitVec.ofNat_eq_ofNat, BitVec.toNat_ofNat, Nat.reducePow, Nat.reduceMod]
    split <;> omega)
  have ho : (p == BitVec.intMin 8) = outOfRange 8 (p.toInt - 1) := by
    rw [Bool.eq_iff_iff, beq_iff_eq, outOfRange, decide_eq_true_eq, toInt_byte, ← BitVec.toNat_inj]
    have hm : (BitVec.intMin 8).toNat = 128 := by decide
    rw [hm]; split <;> omega
  simp only [aluDec, hv, ho, Unary.flags, Unary.overflow, Unary.carry, beq_zero]

/-- aluInc on a byte in exact arithmetic. -/
theorem aluInc_byte (f : Ccr) (p : Byte) : aluInc f p = (Unary.inc.value f p, Unary.inc.flags f p) := by
  have hp := p.isLt
  have hv : p + 1 = Unary.inc.value f p := byte_eq (by
    rw [Unary.value, toNat_ofInt_byte, toInt_byte, BitVec.toNat_add]
    simp only [BitVec.ofNat_eq_ofNat, BitVec.toNat_ofNat, Nat.reducePow, Nat.reduceMod]
    split <;> omega)
  have ho : (p == BitVec.intMax 8) = outOfRange 8 (p.toInt + 1) := by
    rw [Bool.eq_iff_iff, beq_iff_eq, outOfRange, decide_eq_true_eq, toInt_byte, ← BitVec.toNat_inj]
    have hm : (BitVec.intMax 8).toNat = 127 := by decide
    rw [hm]; split <;> omega
  simp only [aluInc, hv, ho, Unary.flags, Unary.overflow, Unary.carry, beq_zero]

/-- aluCom on a byte in exact arithmetic. -/
theorem aluCom_byte (f : Ccr) (p : Byte) : aluCom f p = (Unary.com.value f p, Unary.com.flags f p) := by
  have hp := p.isLt
  have hv : ~~~p = Unary.com.value f p := BitVec.eq_of_toNat_eq (by
    simp only [Unary.value, BitVec.toNat_not, BitVec.toNat_ofNat, Nat.reducePow]
    omega)
  simp only [aluCom, hv, Unary.flags, Unary.overflow, Unary.carry, beq_zero]

/-- aluNeg on a byte in exact arithmetic. -/
theorem aluNeg_byte (f : Ccr) (p : Byte) : aluNeg f p = (Unary.neg.value f p, Unary.neg.flags f p) := by
  have hp := p.isLt
  have hv : 0 - p = Unary.neg.value f p := byte_eq (by
    rw [Unary.value, toNat_ofInt_byte, toInt_byte, BitVec.toNat_sub]
    simp only [BitVec.ofNat_eq_ofNat, BitVec.toNat_ofNat, Nat.reducePow, Nat.reduceMod]
    split <;> omega)
  have hn : ((Unary.neg.value f p).toNat : Int) = -p.toInt % 256 := by rw [Unary.value, toNat_ofInt_byte]
  have ho : (Unary.neg.value f p == BitVec.intMin 8) = outOfRange 8 (-p.toInt) := by
    rw [Bool.eq_iff_iff, beq_iff_eq, outOfRange, decide_eq_true_eq, ← BitVec.toNat_inj]
    have hm : (BitVec.intMin 8).toNat = 128 := by decide
    rw [toInt_byte] at hn ⊢
    rw [hm]; split at hn <;> omega
  have hc : (Unary.neg.value f p != 0) = decide (p ≠ 0) := by
    rw [Bool.eq_iff_iff, bne_iff_ne, decide_eq_true_eq, ne_eq, ne_eq, ← BitVec.toNat_inj, ← BitVec.toNat_inj]
    rw [toInt_byte] at hn
    simp only [BitVec.ofNat_eq_ofNat, BitVec.toNat_ofNat, Nat.reducePow, Nat.reduceMod]
    split at hn <;> omega
  simp only [aluNeg, hv, ho, hc, Unary.flags, Unary.overflow, Unary.carry, beq_zero]

/-- The top bit is a doubled value that does not fit. -/
theorem msb_double_byte (p : Byte) : p.msb = decide (2 ^ 8 ≤ 2 * p.toNat) := by
  rw [msb_byte, Bool.eq_iff_iff, decide_eq_true_eq, decide_eq_true_eq]
  omega

/-- The bottom bit is an odd value. -/
theorem odd_byte (p : Byte) : p.getLsbD 0 = decide (p.toNat % 2 = 1) := by
  simp [BitVec.getLsbD, Nat.testBit_zero]

/-- aluAsl on a byte in exact arithmetic. -/
theorem aluAsl_byte (f : Ccr) (p : Byte) : aluAsl f p = (Unary.asl.value f p, Unary.asl.flags f p) := by
  have hp := p.isLt
  have hf := f.c.toNat_le
  have hv : p <<< 1 = Unary.asl.value f p := BitVec.eq_of_toNat_eq (by
    simp only [Unary.value, BitVec.toNat_shiftLeft, BitVec.toNat_ofNat, Nat.shiftLeft_eq]
    omega)
  simp only [aluAsl, shiftFlags, hv, Unary.flags, Unary.overflow, Unary.carry, msb_double_byte, beq_zero]

/-- aluAsr on a byte in exact arithmetic. -/
theorem aluAsr_byte (f : Ccr) (p : Byte) : aluAsr f p = (Unary.asr.value f p, Unary.asr.flags f p) := by
  have hp := p.isLt
  have hf := f.c.toNat_le
  have hv : p.sshiftRight 1 = Unary.asr.value f p := by
    apply BitVec.eq_of_toInt_eq
    rw [BitVec.toInt_sshiftRight, Unary.value, BitVec.toInt_ofInt, Int.shiftRight_eq_div_pow, toInt_byte,
      Int.bmod_eq_of_le]
    all_goals split <;> omega
  simp only [aluAsr, shiftFlags, hv, Unary.flags, Unary.overflow, Unary.carry, odd_byte, beq_zero]

/-- aluLsr on a byte in exact arithmetic. -/
theorem aluLsr_byte (f : Ccr) (p : Byte) : aluLsr f p = (Unary.lsr.value f p, Unary.lsr.flags f p) := by
  have hp := p.isLt
  have hf := f.c.toNat_le
  have hv : p >>> 1 = Unary.lsr.value f p := BitVec.eq_of_toNat_eq (by
    simp only [Unary.value, BitVec.toNat_ushiftRight, BitVec.toNat_ofNat, Nat.shiftRight_eq_div_pow]
    omega)
  simp only [aluLsr, shiftFlags, hv, Unary.flags, Unary.overflow, Unary.carry, odd_byte, beq_zero]

/-- aluRol on a byte in exact arithmetic. -/
theorem aluRol_byte (f : Ccr) (p : Byte) : aluRol f p = (Unary.rol.value f p, Unary.rol.flags f p) := by
  have hp := p.isLt
  have hf := f.c.toNat_le
  have hv : p <<< 1 ||| carryIn 8 f.c = Unary.rol.value f p := BitVec.eq_of_toNat_eq (by
    have h := Nat.two_pow_add_eq_or_of_lt (i := 1) (b := f.c.toNat) (by omega) (p.toNat % 128)
    simp only [Unary.value, BitVec.toNat_or, BitVec.toNat_shiftLeft, toNat_carryIn_byte, BitVec.toNat_ofNat,
      Nat.shiftLeft_eq]
    have hs : p.toNat * 2 ^ 1 % 2 ^ 8 = 2 ^ 1 * (p.toNat % 128) := by omega
    rw [hs, ← h]
    omega)
  simp only [aluRol, shiftFlags, hv, Unary.flags, Unary.overflow, Unary.carry, msb_double_byte, beq_zero]

/-- aluRor on a byte in exact arithmetic. -/
theorem aluRor_byte (f : Ccr) (p : Byte) : aluRor f p = (Unary.ror.value f p, Unary.ror.flags f p) := by
  have hp := p.isLt
  have hf := f.c.toNat_le
  have hv : p >>> 1 ||| carryIn 8 f.c <<< (8 - 1) = Unary.ror.value f p := BitVec.eq_of_toNat_eq (by
    have h := Nat.two_pow_add_eq_or_of_lt (i := 7) (b := p.toNat / 2) (by omega) f.c.toNat
    simp only [Unary.value, BitVec.toNat_or, BitVec.toNat_shiftLeft, BitVec.toNat_ushiftRight, toNat_carryIn_byte,
      BitVec.toNat_ofNat, Nat.shiftLeft_eq, Nat.shiftRight_eq_div_pow]
    have hs : f.c.toNat * 2 ^ (8 - 1) % 2 ^ 8 = 2 ^ 7 * f.c.toNat := by omega
    have hq : p.toNat / 2 ^ 1 = p.toNat / 2 := by omega
    rw [hs, hq, Nat.or_comm, ← h]
    omega)
  simp only [aluRor, shiftFlags, hv, Unary.flags, Unary.overflow, Unary.carry, odd_byte, beq_zero]

/-- aluDec on a word in exact arithmetic. -/
theorem aluDec_word (f : Ccr) (p : Word) : aluDec f p = (Unary.dec.value f p, Unary.dec.flags f p) := by
  have hp := p.isLt
  have hv : p - 1 = Unary.dec.value f p := word_eq (by
    rw [Unary.value, toNat_ofInt_word, toInt_word, BitVec.toNat_sub]
    simp only [BitVec.ofNat_eq_ofNat, BitVec.toNat_ofNat, Nat.reducePow, Nat.reduceMod]
    split <;> omega)
  have ho : (p == BitVec.intMin 16) = outOfRange 16 (p.toInt - 1) := by
    rw [Bool.eq_iff_iff, beq_iff_eq, outOfRange, decide_eq_true_eq, toInt_word, ← BitVec.toNat_inj]
    have hm : (BitVec.intMin 16).toNat = 32768 := by decide
    rw [hm]; split <;> omega
  simp only [aluDec, hv, ho, Unary.flags, Unary.overflow, Unary.carry, beq_zero]

/-- aluInc on a word in exact arithmetic. -/
theorem aluInc_word (f : Ccr) (p : Word) : aluInc f p = (Unary.inc.value f p, Unary.inc.flags f p) := by
  have hp := p.isLt
  have hv : p + 1 = Unary.inc.value f p := word_eq (by
    rw [Unary.value, toNat_ofInt_word, toInt_word, BitVec.toNat_add]
    simp only [BitVec.ofNat_eq_ofNat, BitVec.toNat_ofNat, Nat.reducePow, Nat.reduceMod]
    split <;> omega)
  have ho : (p == BitVec.intMax 16) = outOfRange 16 (p.toInt + 1) := by
    rw [Bool.eq_iff_iff, beq_iff_eq, outOfRange, decide_eq_true_eq, toInt_word, ← BitVec.toNat_inj]
    have hm : (BitVec.intMax 16).toNat = 32767 := by decide
    rw [hm]; split <;> omega
  simp only [aluInc, hv, ho, Unary.flags, Unary.overflow, Unary.carry, beq_zero]

/-- aluCom on a word in exact arithmetic. -/
theorem aluCom_word (f : Ccr) (p : Word) : aluCom f p = (Unary.com.value f p, Unary.com.flags f p) := by
  have hp := p.isLt
  have hv : ~~~p = Unary.com.value f p := BitVec.eq_of_toNat_eq (by
    simp only [Unary.value, BitVec.toNat_not, BitVec.toNat_ofNat, Nat.reducePow]
    omega)
  simp only [aluCom, hv, Unary.flags, Unary.overflow, Unary.carry, beq_zero]

/-- aluNeg on a word in exact arithmetic. -/
theorem aluNeg_word (f : Ccr) (p : Word) : aluNeg f p = (Unary.neg.value f p, Unary.neg.flags f p) := by
  have hp := p.isLt
  have hv : 0 - p = Unary.neg.value f p := word_eq (by
    rw [Unary.value, toNat_ofInt_word, toInt_word, BitVec.toNat_sub]
    simp only [BitVec.ofNat_eq_ofNat, BitVec.toNat_ofNat, Nat.reducePow, Nat.reduceMod]
    split <;> omega)
  have hn : ((Unary.neg.value f p).toNat : Int) = -p.toInt % 65536 := by rw [Unary.value, toNat_ofInt_word]
  have ho : (Unary.neg.value f p == BitVec.intMin 16) = outOfRange 16 (-p.toInt) := by
    rw [Bool.eq_iff_iff, beq_iff_eq, outOfRange, decide_eq_true_eq, ← BitVec.toNat_inj]
    have hm : (BitVec.intMin 16).toNat = 32768 := by decide
    rw [toInt_word] at hn ⊢
    rw [hm]; split at hn <;> omega
  have hc : (Unary.neg.value f p != 0) = decide (p ≠ 0) := by
    rw [Bool.eq_iff_iff, bne_iff_ne, decide_eq_true_eq, ne_eq, ne_eq, ← BitVec.toNat_inj, ← BitVec.toNat_inj]
    rw [toInt_word] at hn
    simp only [BitVec.ofNat_eq_ofNat, BitVec.toNat_ofNat, Nat.reducePow, Nat.reduceMod]
    split at hn <;> omega
  simp only [aluNeg, hv, ho, hc, Unary.flags, Unary.overflow, Unary.carry, beq_zero]

/-- The top bit is a doubled value that does not fit. -/
theorem msb_double_word (p : Word) : p.msb = decide (2 ^ 16 ≤ 2 * p.toNat) := by
  rw [msb_word, Bool.eq_iff_iff, decide_eq_true_eq, decide_eq_true_eq]
  omega

/-- The bottom bit is an odd value. -/
theorem odd_word (p : Word) : p.getLsbD 0 = decide (p.toNat % 2 = 1) := by
  simp [BitVec.getLsbD, Nat.testBit_zero]

/-- aluAsl on a word in exact arithmetic. -/
theorem aluAsl_word (f : Ccr) (p : Word) : aluAsl f p = (Unary.asl.value f p, Unary.asl.flags f p) := by
  have hp := p.isLt
  have hf := f.c.toNat_le
  have hv : p <<< 1 = Unary.asl.value f p := BitVec.eq_of_toNat_eq (by
    simp only [Unary.value, BitVec.toNat_shiftLeft, BitVec.toNat_ofNat, Nat.shiftLeft_eq]
    omega)
  simp only [aluAsl, shiftFlags, hv, Unary.flags, Unary.overflow, Unary.carry, msb_double_word, beq_zero]

/-- aluAsr on a word in exact arithmetic. -/
theorem aluAsr_word (f : Ccr) (p : Word) : aluAsr f p = (Unary.asr.value f p, Unary.asr.flags f p) := by
  have hp := p.isLt
  have hf := f.c.toNat_le
  have hv : p.sshiftRight 1 = Unary.asr.value f p := by
    apply BitVec.eq_of_toInt_eq
    rw [BitVec.toInt_sshiftRight, Unary.value, BitVec.toInt_ofInt, Int.shiftRight_eq_div_pow, toInt_word,
      Int.bmod_eq_of_le]
    all_goals split <;> omega
  simp only [aluAsr, shiftFlags, hv, Unary.flags, Unary.overflow, Unary.carry, odd_word, beq_zero]

/-- aluLsr on a word in exact arithmetic. -/
theorem aluLsr_word (f : Ccr) (p : Word) : aluLsr f p = (Unary.lsr.value f p, Unary.lsr.flags f p) := by
  have hp := p.isLt
  have hf := f.c.toNat_le
  have hv : p >>> 1 = Unary.lsr.value f p := BitVec.eq_of_toNat_eq (by
    simp only [Unary.value, BitVec.toNat_ushiftRight, BitVec.toNat_ofNat, Nat.shiftRight_eq_div_pow]
    omega)
  simp only [aluLsr, shiftFlags, hv, Unary.flags, Unary.overflow, Unary.carry, odd_word, beq_zero]

/-- aluRol on a word in exact arithmetic. -/
theorem aluRol_word (f : Ccr) (p : Word) : aluRol f p = (Unary.rol.value f p, Unary.rol.flags f p) := by
  have hp := p.isLt
  have hf := f.c.toNat_le
  have hv : p <<< 1 ||| carryIn 16 f.c = Unary.rol.value f p := BitVec.eq_of_toNat_eq (by
    have h := Nat.two_pow_add_eq_or_of_lt (i := 1) (b := f.c.toNat) (by omega) (p.toNat % 32768)
    simp only [Unary.value, BitVec.toNat_or, BitVec.toNat_shiftLeft, toNat_carryIn_word, BitVec.toNat_ofNat,
      Nat.shiftLeft_eq]
    have hs : p.toNat * 2 ^ 1 % 2 ^ 16 = 2 ^ 1 * (p.toNat % 32768) := by omega
    rw [hs, ← h]
    omega)
  simp only [aluRol, shiftFlags, hv, Unary.flags, Unary.overflow, Unary.carry, msb_double_word, beq_zero]

/-- aluRor on a word in exact arithmetic. -/
theorem aluRor_word (f : Ccr) (p : Word) : aluRor f p = (Unary.ror.value f p, Unary.ror.flags f p) := by
  have hp := p.isLt
  have hf := f.c.toNat_le
  have hv : p >>> 1 ||| carryIn 16 f.c <<< (16 - 1) = Unary.ror.value f p := BitVec.eq_of_toNat_eq (by
    have h := Nat.two_pow_add_eq_or_of_lt (i := 15) (b := p.toNat / 2) (by omega) f.c.toNat
    simp only [Unary.value, BitVec.toNat_or, BitVec.toNat_shiftLeft, BitVec.toNat_ushiftRight, toNat_carryIn_word,
      BitVec.toNat_ofNat, Nat.shiftLeft_eq, Nat.shiftRight_eq_div_pow]
    have hs : f.c.toNat * 2 ^ (16 - 1) % 2 ^ 16 = 2 ^ 15 * f.c.toNat := by omega
    have hq : p.toNat / 2 ^ 1 = p.toNat / 2 := by omega
    rw [hs, hq, Nat.or_comm, ← h]
    omega)
  simp only [aluRor, shiftFlags, hv, Unary.flags, Unary.overflow, Unary.carry, odd_word, beq_zero]

end Sys2Proof.Machine
end

