-- ==== Sys2Proof/Laws/Operands.lean ====
section
/-!
SUPPORT. What an operand's addressing mode can do: it moves at most the register it modifies.
-/

namespace Sys2Proof.Machine

/-- Writing back the register's own value changes nothing. -/
theorem State.setAutoReg_self (s : State) (r : AutoReg) : s.setAutoReg r (s.autoReg r) = s := by cases r <;> rfl

@[simp] theorem State.setAutoReg_cfg (s : State) (r : AutoReg) (v : Word) : (s.setAutoReg r v).cfg = s.cfg := by
  cases r <;> rfl
@[simp] theorem State.setAutoReg_a (s : State) (r : AutoReg) (v : Word) : (s.setAutoReg r v).a = s.a := by
  cases r <;> rfl
@[simp] theorem State.setAutoReg_b (s : State) (r : AutoReg) (v : Word) : (s.setAutoReg r v).b = s.b := by
  cases r <;> rfl
@[simp] theorem State.setAutoReg_ccr (s : State) (r : AutoReg) (v : Word) : (s.setAutoReg r v).ccr = s.ccr := by
  cases r <;> rfl
@[simp] theorem State.setAutoReg_ccrh (s : State) (r : AutoReg) (v : Word) : (s.setAutoReg r v).ccrh = s.ccrh := by
  cases r <;> rfl
@[simp] theorem State.setAutoReg_tmp1 (s : State) (r : AutoReg) (v : Word) : (s.setAutoReg r v).tmp1 = s.tmp1 := by
  cases r <;> rfl
@[simp] theorem State.setAutoReg_tmp2 (s : State) (r : AutoReg) (v : Word) : (s.setAutoReg r v).tmp2 = s.tmp2 := by
  cases r <;> rfl
@[simp] theorem State.setAutoReg_tmp3 (s : State) (r : AutoReg) (v : Word) : (s.setAutoReg r v).tmp3 = s.tmp3 := by
  cases r <;> rfl
@[simp] theorem State.setAutoReg_ppage (s : State) (r : AutoReg) (v : Word) : (s.setAutoReg r v).ppage = s.ppage := by
  cases r <;> rfl
@[simp] theorem State.setAutoReg_gpage (s : State) (r : AutoReg) (v : Word) : (s.setAutoReg r v).gpage = s.gpage := by
  cases r <;> rfl
@[simp] theorem State.setAutoReg_direct (s : State) (r : AutoReg) (v : Word) : (s.setAutoReg r v).direct = s.direct := by
  cases r <;> rfl
@[simp] theorem State.setAutoReg_vectorBase (s : State) (r : AutoReg) (v : Word) : (s.setAutoReg r v).vectorBase = s.vectorBase := by
  cases r <;> rfl
@[simp] theorem State.setAutoReg_run (s : State) (r : AutoReg) (v : Word) : (s.setAutoReg r v).run = s.run := by
  cases r <;> rfl
@[simp] theorem State.setAutoReg_iDelay (s : State) (r : AutoReg) (v : Word) : (s.setAutoReg r v).iDelay = s.iDelay := by
  cases r <;> rfl
@[simp] theorem State.setAutoReg_wav (s : State) (r : AutoReg) (v : Word) : (s.setAutoReg r v).wav = s.wav := by
  cases r <;> rfl
@[simp] theorem State.setAutoReg_mem (s : State) (r : AutoReg) (v : Word) : (s.setAutoReg r v).mem = s.mem := by
  cases r <;> rfl
@[simp] theorem State.setAutoReg_inputs (s : State) (r : AutoReg) (v : Word) : (s.setAutoReg r v).inputs = s.inputs := by
  cases r <;> rfl
@[simp] theorem State.setAutoReg_tick (s : State) (r : AutoReg) (v : Word) : (s.setAutoReg r v).tick = s.tick := by
  cases r <;> rfl
@[simp] theorem State.setAutoReg_stale (s : State) (r : AutoReg) (v : Word) : (s.setAutoReg r v).stale = s.stale := by
  cases r <;> rfl
@[simp] theorem State.setAutoReg_pageStored (s : State) (r : AutoReg) (v : Word) : (s.setAutoReg r v).pageStored = s.pageStored := by
  cases r <;> rfl
@[simp] theorem State.setAutoReg_rtiFrame (s : State) (r : AutoReg) (v : Word) : (s.setAutoReg r v).rtiFrame = s.rtiFrame := by
  cases r <;> rfl
@[simp] theorem State.setAutoReg_pc (s : State) (r : AutoReg) (v : Word) : (s.setAutoReg r v).pc = s.pc := by
  cases r <;> rfl
@[simp] theorem State.setAutoReg_special (s : State) (r : AutoReg) (v : Word) : (s.setAutoReg r v).special = s.special := by
  cases r <;> rfl
@[simp] theorem State.setAutoReg_bus (s : State) (r : AutoReg) (v : Word) : (s.setAutoReg r v).bus = s.bus := by
  cases r <;> rfl
@[simp] theorem State.setAutoReg_autoReg (s : State) (r : AutoReg) (v : Word) : (s.setAutoReg r v).autoReg r = v := by
  cases r <;> rfl

/-- Moving a register to its value in another state that differs in nothing else. -/
theorem State.modeOnly_setAutoReg (s : State) (r : AutoReg) (v : Word) :
    s.modeOnly (s.setAutoReg r v) (some r) := by cases r <;> rfl

/-- An indexed mode moves at most the register it modifies. -/
theorem State.indexedFrom_modeOnly (s : State) (pc : Word) (xb : Indexed) :
    s.modeOnly (s.indexedFrom pc xb).2 (Indexed.autoTarget xb) := by
  cases xb
  case auto r post n => exact s.modeOnly_setAutoReg r _
  all_goals rfl

/-- A memory operand's mode moves at most the register it modifies. -/
theorem State.ea_modeOnly (s : State) (op : DirExtIdx) : s.modeOnly (s.ea op).2 (DirExtIdx.autoTarget op) := by
  cases op
  case idx xb => exact s.indexedFrom_modeOnly _ xb
  all_goals rfl

/-- A memory operand's mode moves at most the register it modifies. -/
theorem State.eaExtIdx_modeOnly (s : State) (op : ExtIdx) :
    s.modeOnly (s.eaExtIdx op).2 (ExtIdx.autoTarget op) := by
  cases op
  case idx xb => exact s.indexedFrom_modeOnly _ xb
  all_goals rfl

/-- An operand's mode moves at most the register it modifies. -/
theorem State.src8_modeOnly (s : State) (op : Src8) : s.modeOnly (s.src8 op).2 (Src8.autoTarget op) := by
  cases op
  case mem m => exact s.ea_modeOnly m
  all_goals rfl

/-- An operand's mode moves at most the register it modifies. -/
theorem State.src16_modeOnly (s : State) (op : Src16) : s.modeOnly (s.src16 op).2 (Src16.autoTarget op) := by
  cases op
  case mem m => exact s.ea_modeOnly m
  all_goals rfl

/-! ## The special registers and the bus under the updates -/

@[simp] theorem State.setA_special (s : State) (v : Byte) : (s.setA v).special = s.special := rfl
@[simp] theorem State.setB_special (s : State) (v : Byte) : (s.setB v).special = s.special := rfl
@[simp] theorem State.setD_special (s : State) (v : Word) : (s.setD v).special = s.special := rfl
@[simp] theorem State.setX_special (s : State) (v : Word) : (s.setX v).special = s.special := rfl
@[simp] theorem State.setY_special (s : State) (v : Word) : (s.setY v).special = s.special := rfl
@[simp] theorem State.setSp_special (s : State) (v : Word) : (s.setSp v).special = s.special := rfl
@[simp] theorem State.setPc_special (s : State) (v : Word) : (s.setPc v).special = s.special := rfl
@[simp] theorem State.setCcr_special (s : State) (v : Ccr) : (s.setCcr v).special = s.special := rfl
@[simp] theorem State.setPpage_special (s : State) (v : Byte) : (s.setPpage v).special = s.special := rfl
@[simp] theorem State.setGpage_special (s : State) (v : BitVec 7) : (s.setGpage v).special = s.special := rfl
@[simp] theorem State.setDirect_special (s : State) (v : Byte) : (s.setDirect v).special = s.special := rfl
@[simp] theorem State.setVectorBase_special (s : State) (v : Byte) : (s.setVectorBase v).special = s.special := rfl
@[simp] theorem State.setMem_special (s : State) (v : Mem) : (s.setMem v).special = s.special := rfl
@[simp] theorem State.setStale_special (s : State) (v : List Word) : (s.setStale v).special = s.special := rfl
@[simp] theorem State.setPageStored_special (s : State) (v : Bool) : (s.setPageStored v).special = s.special := rfl
@[simp] theorem State.setAcc_special (s : State) (r : Acc) (v : Byte) : (s.setAcc r v).special = s.special := by cases r <;> rfl
@[simp] theorem State.setAcc_bus (s : State) (r : Acc) (v : Byte) : (s.setAcc r v).bus = s.bus := by cases r <;> rfl
@[simp] theorem State.setAcc_pc (s : State) (r : Acc) (v : Byte) : (s.setAcc r v).pc = s.pc := by cases r <;> rfl
@[simp] theorem State.setAcc_ccr (s : State) (r : Acc) (v : Byte) : (s.setAcc r v).ccr = s.ccr := by cases r <;> rfl
@[simp] theorem State.setAcc_tick (s : State) (r : Acc) (v : Byte) : (s.setAcc r v).tick = s.tick := by cases r <;> rfl
@[simp] theorem State.setAcc_cfg (s : State) (r : Acc) (v : Byte) : (s.setAcc r v).cfg = s.cfg := by cases r <;> rfl
@[simp] theorem State.setAcc_gpage (s : State) (r : Acc) (v : Byte) : (s.setAcc r v).gpage = s.gpage := by cases r <;> rfl
@[simp] theorem State.setAcc_mem (s : State) (r : Acc) (v : Byte) : (s.setAcc r v).mem = s.mem := by cases r <;> rfl
@[simp] theorem State.setWide_special (s : State) (r : Wide) (v : Word) : (s.setWide r v).special = s.special := by cases r <;> rfl
@[simp] theorem State.setWide_bus (s : State) (r : Wide) (v : Word) : (s.setWide r v).bus = s.bus := by cases r <;> rfl
@[simp] theorem State.setWide_pc (s : State) (r : Wide) (v : Word) : (s.setWide r v).pc = s.pc := by cases r <;> rfl
@[simp] theorem State.setWide_ccr (s : State) (r : Wide) (v : Word) : (s.setWide r v).ccr = s.ccr := by cases r <;> rfl
@[simp] theorem State.setWide_tick (s : State) (r : Wide) (v : Word) : (s.setWide r v).tick = s.tick := by cases r <;> rfl
@[simp] theorem State.setWide_cfg (s : State) (r : Wide) (v : Word) : (s.setWide r v).cfg = s.cfg := by cases r <;> rfl
@[simp] theorem State.setWide_gpage (s : State) (r : Wide) (v : Word) : (s.setWide r v).gpage = s.gpage := by cases r <;> rfl
@[simp] theorem State.setWide_mem (s : State) (r : Wide) (v : Word) : (s.setWide r v).mem = s.mem := by cases r <;> rfl
@[simp] theorem State.poke_special (s : State) (l : Loc) (v : Byte) : (s.poke l v).special = s.special := by simp [State.special]
@[simp] theorem State.poke_regs (s : State) (l : Loc) (v : Byte) : (s.poke l v).regs = s.regs := by simp [State.regs]
@[simp] theorem State.write8_special (s : State) (q : Word) (v : Byte) : (s.write8 q v).special = s.special := by simp [State.special]
@[simp] theorem State.write8_regs (s : State) (q : Word) (v : Byte) : (s.write8 q v).regs = s.regs := by simp [State.regs]
@[simp] theorem State.write16_special (s : State) (q v : Word) : (s.write16 q v).special = s.special := by simp [State.special]
@[simp] theorem State.write16_regs (s : State) (q v : Word) : (s.write16 q v).regs = s.regs := by simp [State.regs]
@[simp] theorem State.gwrite8_special (s : State) (p : BitVec 7) (q : Word) (v : Byte) : (s.gwrite8 p q v).special = s.special := by simp [State.special]
@[simp] theorem State.gwrite8_regs (s : State) (p : BitVec 7) (q : Word) (v : Byte) : (s.gwrite8 p q v).regs = s.regs := by simp [State.regs]
@[simp] theorem State.gwrite16_special (s : State) (q v : Word) : (s.gwrite16 q v).special = s.special := by simp [State.special]
@[simp] theorem State.gwrite16_regs (s : State) (q v : Word) : (s.gwrite16 q v).regs = s.regs := by simp [State.regs]
@[simp] theorem State.push8_special (s : State) (v : Byte) : (s.push8 v).special = s.special := by simp [State.special]
@[simp] theorem State.push16_special (s : State) (v : Word) : (s.push16 v).special = s.special := by simp [State.special]
@[simp] theorem State.setA_bus (s : State) (v : Byte) : (s.setA v).bus = s.bus := rfl
@[simp] theorem State.setB_bus (s : State) (v : Byte) : (s.setB v).bus = s.bus := rfl
@[simp] theorem State.setD_bus (s : State) (v : Word) : (s.setD v).bus = s.bus := rfl
@[simp] theorem State.setX_bus (s : State) (v : Word) : (s.setX v).bus = s.bus := rfl
@[simp] theorem State.setY_bus (s : State) (v : Word) : (s.setY v).bus = s.bus := rfl
@[simp] theorem State.setSp_bus (s : State) (v : Word) : (s.setSp v).bus = s.bus := rfl
@[simp] theorem State.setPc_bus (s : State) (v : Word) : (s.setPc v).bus = s.bus := rfl
@[simp] theorem State.setCcr_bus (s : State) (v : Ccr) : (s.setCcr v).bus = s.bus := rfl
@[simp] theorem State.setCcrh_bus (s : State) (v : Ccrh) : (s.setCcrh v).bus = s.bus := rfl
@[simp] theorem State.setTmp1_bus (s : State) (v : Tmp) : (s.setTmp1 v).bus = s.bus := rfl
@[simp] theorem State.setTmp2_bus (s : State) (v : Tmp) : (s.setTmp2 v).bus = s.bus := rfl
@[simp] theorem State.setTmp3_bus (s : State) (v : Tmp) : (s.setTmp3 v).bus = s.bus := rfl
@[simp] theorem State.setRun_bus (s : State) (v : RunState) : (s.setRun v).bus = s.bus := rfl
@[simp] theorem State.setIDelay_bus (s : State) (v : Bool) : (s.setIDelay v).bus = s.bus := rfl
@[simp] theorem State.setWav_bus (s : State) (v : Option WavSums) : (s.setWav v).bus = s.bus := rfl
@[simp] theorem State.setInputs_bus (s : State) (v : List Env) : (s.setInputs v).bus = s.bus := rfl
@[simp] theorem State.setStale_bus (s : State) (v : List Word) : (s.setStale v).bus = s.bus := rfl
@[simp] theorem State.setPageStored_bus (s : State) (v : Bool) : (s.setPageStored v).bus = s.bus := rfl
@[simp] theorem State.setRtiFrame_bus (s : State) (v : Bool) : (s.setRtiFrame v).bus = s.bus := rfl
@[simp] theorem State.setPc_regs (s : State) (v : Word) : (s.setPc v).regs = s.regs := rfl
@[simp] theorem State.setCcr_regs (s : State) (v : Ccr) : (s.setCcr v).regs = s.regs := rfl
@[simp] theorem State.setPpage_regs (s : State) (v : Byte) : (s.setPpage v).regs = s.regs := rfl
@[simp] theorem State.setGpage_regs (s : State) (v : BitVec 7) : (s.setGpage v).regs = s.regs := rfl
@[simp] theorem State.setDirect_regs (s : State) (v : Byte) : (s.setDirect v).regs = s.regs := rfl
@[simp] theorem State.setVectorBase_regs (s : State) (v : Byte) : (s.setVectorBase v).regs = s.regs := rfl
@[simp] theorem State.setMem_regs (s : State) (v : Mem) : (s.setMem v).regs = s.regs := rfl
@[simp] theorem State.setStale_regs (s : State) (v : List Word) : (s.setStale v).regs = s.regs := rfl
@[simp] theorem State.setPageStored_regs (s : State) (v : Bool) : (s.setPageStored v).regs = s.regs := rfl
@[simp] theorem State.peek_setCcr (s : State) (v : Ccr) (l : Loc) : (s.setCcr v).peek l = s.peek l :=
  State.peek_of_bus rfl l

/-- A state with the same bus reads every byte as before. -/
theorem State.bytesKept_of_bus {s t : State} (h : t.bus = s.bus) (stored : List Loc) : s.bytesKept t stored :=
  fun l _ => State.peek_of_bus h l

/-! ## What a mode leaves alone -/

theorem State.modeOnly_cfg {s s1 : State} {t : Option AutoReg} (h : s.modeOnly s1 t) : s1.cfg = s.cfg := by
  cases t
  · exact congrArg _ h
  · exact (congrArg _ h).trans (State.setAutoReg_cfg _ _ _)
theorem State.modeOnly_a {s s1 : State} {t : Option AutoReg} (h : s.modeOnly s1 t) : s1.a = s.a := by
  cases t
  · exact congrArg _ h
  · exact (congrArg _ h).trans (State.setAutoReg_a _ _ _)
theorem State.modeOnly_b {s s1 : State} {t : Option AutoReg} (h : s.modeOnly s1 t) : s1.b = s.b := by
  cases t
  · exact congrArg _ h
  · exact (congrArg _ h).trans (State.setAutoReg_b _ _ _)
theorem State.modeOnly_ccr {s s1 : State} {t : Option AutoReg} (h : s.modeOnly s1 t) : s1.ccr = s.ccr := by
  cases t
  · exact congrArg _ h
  · exact (congrArg _ h).trans (State.setAutoReg_ccr _ _ _)
theorem State.modeOnly_ccrh {s s1 : State} {t : Option AutoReg} (h : s.modeOnly s1 t) : s1.ccrh = s.ccrh := by
  cases t
  · exact congrArg _ h
  · exact (congrArg _ h).trans (State.setAutoReg_ccrh _ _ _)
theorem State.modeOnly_tmp1 {s s1 : State} {t : Option AutoReg} (h : s.modeOnly s1 t) : s1.tmp1 = s.tmp1 := by
  cases t
  · exact congrArg _ h
  · exact (congrArg _ h).trans (State.setAutoReg_tmp1 _ _ _)
theorem State.modeOnly_tmp2 {s s1 : State} {t : Option AutoReg} (h : s.modeOnly s1 t) : s1.tmp2 = s.tmp2 := by
  cases t
  · exact congrArg _ h
  · exact (congrArg _ h).trans (State.setAutoReg_tmp2 _ _ _)
theorem State.modeOnly_tmp3 {s s1 : State} {t : Option AutoReg} (h : s.modeOnly s1 t) : s1.tmp3 = s.tmp3 := by
  cases t
  · exact congrArg _ h
  · exact (congrArg _ h).trans (State.setAutoReg_tmp3 _ _ _)
theorem State.modeOnly_ppage {s s1 : State} {t : Option AutoReg} (h : s.modeOnly s1 t) : s1.ppage = s.ppage := by
  cases t
  · exact congrArg _ h
  · exact (congrArg _ h).trans (State.setAutoReg_ppage _ _ _)
theorem State.modeOnly_gpage {s s1 : State} {t : Option AutoReg} (h : s.modeOnly s1 t) : s1.gpage = s.gpage := by
  cases t
  · exact congrArg _ h
  · exact (congrArg _ h).trans (State.setAutoReg_gpage _ _ _)
theorem State.modeOnly_direct {s s1 : State} {t : Option AutoReg} (h : s.modeOnly s1 t) : s1.direct = s.direct := by
  cases t
  · exact congrArg _ h
  · exact (congrArg _ h).trans (State.setAutoReg_direct _ _ _)
theorem State.modeOnly_vectorBase {s s1 : State} {t : Option AutoReg} (h : s.modeOnly s1 t) : s1.vectorBase = s.vectorBase := by
  cases t
  · exact congrArg _ h
  · exact (congrArg _ h).trans (State.setAutoReg_vectorBase _ _ _)
theorem State.modeOnly_run {s s1 : State} {t : Option AutoReg} (h : s.modeOnly s1 t) : s1.run = s.run := by
  cases t
  · exact congrArg _ h
  · exact (congrArg _ h).trans (State.setAutoReg_run _ _ _)
theorem State.modeOnly_iDelay {s s1 : State} {t : Option AutoReg} (h : s.modeOnly s1 t) : s1.iDelay = s.iDelay := by
  cases t
  · exact congrArg _ h
  · exact (congrArg _ h).trans (State.setAutoReg_iDelay _ _ _)
theorem State.modeOnly_wav {s s1 : State} {t : Option AutoReg} (h : s.modeOnly s1 t) : s1.wav = s.wav := by
  cases t
  · exact congrArg _ h
  · exact (congrArg _ h).trans (State.setAutoReg_wav _ _ _)
theorem State.modeOnly_mem {s s1 : State} {t : Option AutoReg} (h : s.modeOnly s1 t) : s1.mem = s.mem := by
  cases t
  · exact congrArg _ h
  · exact (congrArg _ h).trans (State.setAutoReg_mem _ _ _)
theorem State.modeOnly_inputs {s s1 : State} {t : Option AutoReg} (h : s.modeOnly s1 t) : s1.inputs = s.inputs := by
  cases t
  · exact congrArg _ h
  · exact (congrArg _ h).trans (State.setAutoReg_inputs _ _ _)
theorem State.modeOnly_tick {s s1 : State} {t : Option AutoReg} (h : s.modeOnly s1 t) : s1.tick = s.tick := by
  cases t
  · exact congrArg _ h
  · exact (congrArg _ h).trans (State.setAutoReg_tick _ _ _)
theorem State.modeOnly_stale {s s1 : State} {t : Option AutoReg} (h : s.modeOnly s1 t) : s1.stale = s.stale := by
  cases t
  · exact congrArg _ h
  · exact (congrArg _ h).trans (State.setAutoReg_stale _ _ _)
theorem State.modeOnly_pageStored {s s1 : State} {t : Option AutoReg} (h : s.modeOnly s1 t) : s1.pageStored = s.pageStored := by
  cases t
  · exact congrArg _ h
  · exact (congrArg _ h).trans (State.setAutoReg_pageStored _ _ _)
theorem State.modeOnly_rtiFrame {s s1 : State} {t : Option AutoReg} (h : s.modeOnly s1 t) : s1.rtiFrame = s.rtiFrame := by
  cases t
  · exact congrArg _ h
  · exact (congrArg _ h).trans (State.setAutoReg_rtiFrame _ _ _)
theorem State.modeOnly_pc {s s1 : State} {t : Option AutoReg} (h : s.modeOnly s1 t) : s1.pc = s.pc := by
  cases t
  · exact congrArg _ h
  · exact (congrArg _ h).trans (State.setAutoReg_pc _ _ _)
theorem State.modeOnly_special {s s1 : State} {t : Option AutoReg} (h : s.modeOnly s1 t) : s1.special = s.special := by
  cases t
  · exact congrArg _ h
  · exact (congrArg _ h).trans (State.setAutoReg_special _ _ _)
theorem State.modeOnly_bus {s s1 : State} {t : Option AutoReg} (h : s.modeOnly s1 t) : s1.bus = s.bus := by
  cases t
  · exact congrArg _ h
  · exact (congrArg _ h).trans (State.setAutoReg_bus _ _ _)

@[simp] theorem State.indexedFrom_cfg (s : State) (pc : Word) (op : Indexed) : (s.indexedFrom pc op).2.cfg = s.cfg :=
  State.modeOnly_cfg (s.indexedFrom_modeOnly pc op)
@[simp] theorem State.indexedFrom_a (s : State) (pc : Word) (op : Indexed) : (s.indexedFrom pc op).2.a = s.a :=
  State.modeOnly_a (s.indexedFrom_modeOnly pc op)
@[simp] theorem State.indexedFrom_b (s : State) (pc : Word) (op : Indexed) : (s.indexedFrom pc op).2.b = s.b :=
  State.modeOnly_b (s.indexedFrom_modeOnly pc op)
@[simp] theorem State.indexedFrom_ccr (s : State) (pc : Word) (op : Indexed) : (s.indexedFrom pc op).2.ccr = s.ccr :=
  State.modeOnly_ccr (s.indexedFrom_modeOnly pc op)
@[simp] theorem State.indexedFrom_ccrh (s : State) (pc : Word) (op : Indexed) : (s.indexedFrom pc op).2.ccrh = s.ccrh :=
  State.modeOnly_ccrh (s.indexedFrom_modeOnly pc op)
@[simp] theorem State.indexedFrom_tmp1 (s : State) (pc : Word) (op : Indexed) : (s.indexedFrom pc op).2.tmp1 = s.tmp1 :=
  State.modeOnly_tmp1 (s.indexedFrom_modeOnly pc op)
@[simp] theorem State.indexedFrom_tmp2 (s : State) (pc : Word) (op : Indexed) : (s.indexedFrom pc op).2.tmp2 = s.tmp2 :=
  State.modeOnly_tmp2 (s.indexedFrom_modeOnly pc op)
@[simp] theorem State.indexedFrom_tmp3 (s : State) (pc : Word) (op : Indexed) : (s.indexedFrom pc op).2.tmp3 = s.tmp3 :=
  State.modeOnly_tmp3 (s.indexedFrom_modeOnly pc op)
@[simp] theorem State.indexedFrom_ppage (s : State) (pc : Word) (op : Indexed) : (s.indexedFrom pc op).2.ppage = s.ppage :=
  State.modeOnly_ppage (s.indexedFrom_modeOnly pc op)
@[simp] theorem State.indexedFrom_gpage (s : State) (pc : Word) (op : Indexed) : (s.indexedFrom pc op).2.gpage = s.gpage :=
  State.modeOnly_gpage (s.indexedFrom_modeOnly pc op)
@[simp] theorem State.indexedFrom_direct (s : State) (pc : Word) (op : Indexed) : (s.indexedFrom pc op).2.direct = s.direct :=
  State.modeOnly_direct (s.indexedFrom_modeOnly pc op)
@[simp] theorem State.indexedFrom_vectorBase (s : State) (pc : Word) (op : Indexed) : (s.indexedFrom pc op).2.vectorBase = s.vectorBase :=
  State.modeOnly_vectorBase (s.indexedFrom_modeOnly pc op)
@[simp] theorem State.indexedFrom_run (s : State) (pc : Word) (op : Indexed) : (s.indexedFrom pc op).2.run = s.run :=
  State.modeOnly_run (s.indexedFrom_modeOnly pc op)
@[simp] theorem State.indexedFrom_iDelay (s : State) (pc : Word) (op : Indexed) : (s.indexedFrom pc op).2.iDelay = s.iDelay :=
  State.modeOnly_iDelay (s.indexedFrom_modeOnly pc op)
@[simp] theorem State.indexedFrom_wav (s : State) (pc : Word) (op : Indexed) : (s.indexedFrom pc op).2.wav = s.wav :=
  State.modeOnly_wav (s.indexedFrom_modeOnly pc op)
@[simp] theorem State.indexedFrom_mem (s : State) (pc : Word) (op : Indexed) : (s.indexedFrom pc op).2.mem = s.mem :=
  State.modeOnly_mem (s.indexedFrom_modeOnly pc op)
@[simp] theorem State.indexedFrom_inputs (s : State) (pc : Word) (op : Indexed) : (s.indexedFrom pc op).2.inputs = s.inputs :=
  State.modeOnly_inputs (s.indexedFrom_modeOnly pc op)
@[simp] theorem State.indexedFrom_tick (s : State) (pc : Word) (op : Indexed) : (s.indexedFrom pc op).2.tick = s.tick :=
  State.modeOnly_tick (s.indexedFrom_modeOnly pc op)
@[simp] theorem State.indexedFrom_stale (s : State) (pc : Word) (op : Indexed) : (s.indexedFrom pc op).2.stale = s.stale :=
  State.modeOnly_stale (s.indexedFrom_modeOnly pc op)
@[simp] theorem State.indexedFrom_pageStored (s : State) (pc : Word) (op : Indexed) : (s.indexedFrom pc op).2.pageStored = s.pageStored :=
  State.modeOnly_pageStored (s.indexedFrom_modeOnly pc op)
@[simp] theorem State.indexedFrom_rtiFrame (s : State) (pc : Word) (op : Indexed) : (s.indexedFrom pc op).2.rtiFrame = s.rtiFrame :=
  State.modeOnly_rtiFrame (s.indexedFrom_modeOnly pc op)
@[simp] theorem State.indexedFrom_pc (s : State) (pc : Word) (op : Indexed) : (s.indexedFrom pc op).2.pc = s.pc :=
  State.modeOnly_pc (s.indexedFrom_modeOnly pc op)
@[simp] theorem State.indexedFrom_special (s : State) (pc : Word) (op : Indexed) : (s.indexedFrom pc op).2.special = s.special :=
  State.modeOnly_special (s.indexedFrom_modeOnly pc op)
@[simp] theorem State.indexedFrom_bus (s : State) (pc : Word) (op : Indexed) : (s.indexedFrom pc op).2.bus = s.bus :=
  State.modeOnly_bus (s.indexedFrom_modeOnly pc op)

@[simp] theorem State.indexed_cfg (s : State) (op : Indexed) : (s.indexed op).2.cfg = s.cfg :=
  State.modeOnly_cfg (s.indexedFrom_modeOnly s.pc op)
@[simp] theorem State.indexed_a (s : State) (op : Indexed) : (s.indexed op).2.a = s.a :=
  State.modeOnly_a (s.indexedFrom_modeOnly s.pc op)
@[simp] theorem State.indexed_b (s : State) (op : Indexed) : (s.indexed op).2.b = s.b :=
  State.modeOnly_b (s.indexedFrom_modeOnly s.pc op)
@[simp] theorem State.indexed_ccr (s : State) (op : Indexed) : (s.indexed op).2.ccr = s.ccr :=
  State.modeOnly_ccr (s.indexedFrom_modeOnly s.pc op)
@[simp] theorem State.indexed_ccrh (s : State) (op : Indexed) : (s.indexed op).2.ccrh = s.ccrh :=
  State.modeOnly_ccrh (s.indexedFrom_modeOnly s.pc op)
@[simp] theorem State.indexed_tmp1 (s : State) (op : Indexed) : (s.indexed op).2.tmp1 = s.tmp1 :=
  State.modeOnly_tmp1 (s.indexedFrom_modeOnly s.pc op)
@[simp] theorem State.indexed_tmp2 (s : State) (op : Indexed) : (s.indexed op).2.tmp2 = s.tmp2 :=
  State.modeOnly_tmp2 (s.indexedFrom_modeOnly s.pc op)
@[simp] theorem State.indexed_tmp3 (s : State) (op : Indexed) : (s.indexed op).2.tmp3 = s.tmp3 :=
  State.modeOnly_tmp3 (s.indexedFrom_modeOnly s.pc op)
@[simp] theorem State.indexed_ppage (s : State) (op : Indexed) : (s.indexed op).2.ppage = s.ppage :=
  State.modeOnly_ppage (s.indexedFrom_modeOnly s.pc op)
@[simp] theorem State.indexed_gpage (s : State) (op : Indexed) : (s.indexed op).2.gpage = s.gpage :=
  State.modeOnly_gpage (s.indexedFrom_modeOnly s.pc op)
@[simp] theorem State.indexed_direct (s : State) (op : Indexed) : (s.indexed op).2.direct = s.direct :=
  State.modeOnly_direct (s.indexedFrom_modeOnly s.pc op)
@[simp] theorem State.indexed_vectorBase (s : State) (op : Indexed) : (s.indexed op).2.vectorBase = s.vectorBase :=
  State.modeOnly_vectorBase (s.indexedFrom_modeOnly s.pc op)
@[simp] theorem State.indexed_run (s : State) (op : Indexed) : (s.indexed op).2.run = s.run :=
  State.modeOnly_run (s.indexedFrom_modeOnly s.pc op)
@[simp] theorem State.indexed_iDelay (s : State) (op : Indexed) : (s.indexed op).2.iDelay = s.iDelay :=
  State.modeOnly_iDelay (s.indexedFrom_modeOnly s.pc op)
@[simp] theorem State.indexed_wav (s : State) (op : Indexed) : (s.indexed op).2.wav = s.wav :=
  State.modeOnly_wav (s.indexedFrom_modeOnly s.pc op)
@[simp] theorem State.indexed_mem (s : State) (op : Indexed) : (s.indexed op).2.mem = s.mem :=
  State.modeOnly_mem (s.indexedFrom_modeOnly s.pc op)
@[simp] theorem State.indexed_inputs (s : State) (op : Indexed) : (s.indexed op).2.inputs = s.inputs :=
  State.modeOnly_inputs (s.indexedFrom_modeOnly s.pc op)
@[simp] theorem State.indexed_tick (s : State) (op : Indexed) : (s.indexed op).2.tick = s.tick :=
  State.modeOnly_tick (s.indexedFrom_modeOnly s.pc op)
@[simp] theorem State.indexed_stale (s : State) (op : Indexed) : (s.indexed op).2.stale = s.stale :=
  State.modeOnly_stale (s.indexedFrom_modeOnly s.pc op)
@[simp] theorem State.indexed_pageStored (s : State) (op : Indexed) : (s.indexed op).2.pageStored = s.pageStored :=
  State.modeOnly_pageStored (s.indexedFrom_modeOnly s.pc op)
@[simp] theorem State.indexed_rtiFrame (s : State) (op : Indexed) : (s.indexed op).2.rtiFrame = s.rtiFrame :=
  State.modeOnly_rtiFrame (s.indexedFrom_modeOnly s.pc op)
@[simp] theorem State.indexed_pc (s : State) (op : Indexed) : (s.indexed op).2.pc = s.pc :=
  State.modeOnly_pc (s.indexedFrom_modeOnly s.pc op)
@[simp] theorem State.indexed_special (s : State) (op : Indexed) : (s.indexed op).2.special = s.special :=
  State.modeOnly_special (s.indexedFrom_modeOnly s.pc op)
@[simp] theorem State.indexed_bus (s : State) (op : Indexed) : (s.indexed op).2.bus = s.bus :=
  State.modeOnly_bus (s.indexedFrom_modeOnly s.pc op)

@[simp] theorem State.ea_cfg (s : State) (op : DirExtIdx) : (s.ea op).2.cfg = s.cfg :=
  State.modeOnly_cfg (s.ea_modeOnly op)
@[simp] theorem State.ea_a (s : State) (op : DirExtIdx) : (s.ea op).2.a = s.a :=
  State.modeOnly_a (s.ea_modeOnly op)
@[simp] theorem State.ea_b (s : State) (op : DirExtIdx) : (s.ea op).2.b = s.b :=
  State.modeOnly_b (s.ea_modeOnly op)
@[simp] theorem State.ea_ccr (s : State) (op : DirExtIdx) : (s.ea op).2.ccr = s.ccr :=
  State.modeOnly_ccr (s.ea_modeOnly op)
@[simp] theorem State.ea_ccrh (s : State) (op : DirExtIdx) : (s.ea op).2.ccrh = s.ccrh :=
  State.modeOnly_ccrh (s.ea_modeOnly op)
@[simp] theorem State.ea_tmp1 (s : State) (op : DirExtIdx) : (s.ea op).2.tmp1 = s.tmp1 :=
  State.modeOnly_tmp1 (s.ea_modeOnly op)
@[simp] theorem State.ea_tmp2 (s : State) (op : DirExtIdx) : (s.ea op).2.tmp2 = s.tmp2 :=
  State.modeOnly_tmp2 (s.ea_modeOnly op)
@[simp] theorem State.ea_tmp3 (s : State) (op : DirExtIdx) : (s.ea op).2.tmp3 = s.tmp3 :=
  State.modeOnly_tmp3 (s.ea_modeOnly op)
@[simp] theorem State.ea_ppage (s : State) (op : DirExtIdx) : (s.ea op).2.ppage = s.ppage :=
  State.modeOnly_ppage (s.ea_modeOnly op)
@[simp] theorem State.ea_gpage (s : State) (op : DirExtIdx) : (s.ea op).2.gpage = s.gpage :=
  State.modeOnly_gpage (s.ea_modeOnly op)
@[simp] theorem State.ea_direct (s : State) (op : DirExtIdx) : (s.ea op).2.direct = s.direct :=
  State.modeOnly_direct (s.ea_modeOnly op)
@[simp] theorem State.ea_vectorBase (s : State) (op : DirExtIdx) : (s.ea op).2.vectorBase = s.vectorBase :=
  State.modeOnly_vectorBase (s.ea_modeOnly op)
@[simp] theorem State.ea_run (s : State) (op : DirExtIdx) : (s.ea op).2.run = s.run :=
  State.modeOnly_run (s.ea_modeOnly op)
@[simp] theorem State.ea_iDelay (s : State) (op : DirExtIdx) : (s.ea op).2.iDelay = s.iDelay :=
  State.modeOnly_iDelay (s.ea_modeOnly op)
@[simp] theorem State.ea_wav (s : State) (op : DirExtIdx) : (s.ea op).2.wav = s.wav :=
  State.modeOnly_wav (s.ea_modeOnly op)
@[simp] theorem State.ea_mem (s : State) (op : DirExtIdx) : (s.ea op).2.mem = s.mem :=
  State.modeOnly_mem (s.ea_modeOnly op)
@[simp] theorem State.ea_inputs (s : State) (op : DirExtIdx) : (s.ea op).2.inputs = s.inputs :=
  State.modeOnly_inputs (s.ea_modeOnly op)
@[simp] theorem State.ea_tick (s : State) (op : DirExtIdx) : (s.ea op).2.tick = s.tick :=
  State.modeOnly_tick (s.ea_modeOnly op)
@[simp] theorem State.ea_stale (s : State) (op : DirExtIdx) : (s.ea op).2.stale = s.stale :=
  State.modeOnly_stale (s.ea_modeOnly op)
@[simp] theorem State.ea_pageStored (s : State) (op : DirExtIdx) : (s.ea op).2.pageStored = s.pageStored :=
  State.modeOnly_pageStored (s.ea_modeOnly op)
@[simp] theorem State.ea_rtiFrame (s : State) (op : DirExtIdx) : (s.ea op).2.rtiFrame = s.rtiFrame :=
  State.modeOnly_rtiFrame (s.ea_modeOnly op)
@[simp] theorem State.ea_pc (s : State) (op : DirExtIdx) : (s.ea op).2.pc = s.pc :=
  State.modeOnly_pc (s.ea_modeOnly op)
@[simp] theorem State.ea_special (s : State) (op : DirExtIdx) : (s.ea op).2.special = s.special :=
  State.modeOnly_special (s.ea_modeOnly op)
@[simp] theorem State.ea_bus (s : State) (op : DirExtIdx) : (s.ea op).2.bus = s.bus :=
  State.modeOnly_bus (s.ea_modeOnly op)

@[simp] theorem State.eaExtIdx_cfg (s : State) (op : ExtIdx) : (s.eaExtIdx op).2.cfg = s.cfg :=
  State.modeOnly_cfg (s.eaExtIdx_modeOnly op)
@[simp] theorem State.eaExtIdx_a (s : State) (op : ExtIdx) : (s.eaExtIdx op).2.a = s.a :=
  State.modeOnly_a (s.eaExtIdx_modeOnly op)
@[simp] theorem State.eaExtIdx_b (s : State) (op : ExtIdx) : (s.eaExtIdx op).2.b = s.b :=
  State.modeOnly_b (s.eaExtIdx_modeOnly op)
@[simp] theorem State.eaExtIdx_ccr (s : State) (op : ExtIdx) : (s.eaExtIdx op).2.ccr = s.ccr :=
  State.modeOnly_ccr (s.eaExtIdx_modeOnly op)
@[simp] theorem State.eaExtIdx_ccrh (s : State) (op : ExtIdx) : (s.eaExtIdx op).2.ccrh = s.ccrh :=
  State.modeOnly_ccrh (s.eaExtIdx_modeOnly op)
@[simp] theorem State.eaExtIdx_tmp1 (s : State) (op : ExtIdx) : (s.eaExtIdx op).2.tmp1 = s.tmp1 :=
  State.modeOnly_tmp1 (s.eaExtIdx_modeOnly op)
@[simp] theorem State.eaExtIdx_tmp2 (s : State) (op : ExtIdx) : (s.eaExtIdx op).2.tmp2 = s.tmp2 :=
  State.modeOnly_tmp2 (s.eaExtIdx_modeOnly op)
@[simp] theorem State.eaExtIdx_tmp3 (s : State) (op : ExtIdx) : (s.eaExtIdx op).2.tmp3 = s.tmp3 :=
  State.modeOnly_tmp3 (s.eaExtIdx_modeOnly op)
@[simp] theorem State.eaExtIdx_ppage (s : State) (op : ExtIdx) : (s.eaExtIdx op).2.ppage = s.ppage :=
  State.modeOnly_ppage (s.eaExtIdx_modeOnly op)
@[simp] theorem State.eaExtIdx_gpage (s : State) (op : ExtIdx) : (s.eaExtIdx op).2.gpage = s.gpage :=
  State.modeOnly_gpage (s.eaExtIdx_modeOnly op)
@[simp] theorem State.eaExtIdx_direct (s : State) (op : ExtIdx) : (s.eaExtIdx op).2.direct = s.direct :=
  State.modeOnly_direct (s.eaExtIdx_modeOnly op)
@[simp] theorem State.eaExtIdx_vectorBase (s : State) (op : ExtIdx) : (s.eaExtIdx op).2.vectorBase = s.vectorBase :=
  State.modeOnly_vectorBase (s.eaExtIdx_modeOnly op)
@[simp] theorem State.eaExtIdx_run (s : State) (op : ExtIdx) : (s.eaExtIdx op).2.run = s.run :=
  State.modeOnly_run (s.eaExtIdx_modeOnly op)
@[simp] theorem State.eaExtIdx_iDelay (s : State) (op : ExtIdx) : (s.eaExtIdx op).2.iDelay = s.iDelay :=
  State.modeOnly_iDelay (s.eaExtIdx_modeOnly op)
@[simp] theorem State.eaExtIdx_wav (s : State) (op : ExtIdx) : (s.eaExtIdx op).2.wav = s.wav :=
  State.modeOnly_wav (s.eaExtIdx_modeOnly op)
@[simp] theorem State.eaExtIdx_mem (s : State) (op : ExtIdx) : (s.eaExtIdx op).2.mem = s.mem :=
  State.modeOnly_mem (s.eaExtIdx_modeOnly op)
@[simp] theorem State.eaExtIdx_inputs (s : State) (op : ExtIdx) : (s.eaExtIdx op).2.inputs = s.inputs :=
  State.modeOnly_inputs (s.eaExtIdx_modeOnly op)
@[simp] theorem State.eaExtIdx_tick (s : State) (op : ExtIdx) : (s.eaExtIdx op).2.tick = s.tick :=
  State.modeOnly_tick (s.eaExtIdx_modeOnly op)
@[simp] theorem State.eaExtIdx_stale (s : State) (op : ExtIdx) : (s.eaExtIdx op).2.stale = s.stale :=
  State.modeOnly_stale (s.eaExtIdx_modeOnly op)
@[simp] theorem State.eaExtIdx_pageStored (s : State) (op : ExtIdx) : (s.eaExtIdx op).2.pageStored = s.pageStored :=
  State.modeOnly_pageStored (s.eaExtIdx_modeOnly op)
@[simp] theorem State.eaExtIdx_rtiFrame (s : State) (op : ExtIdx) : (s.eaExtIdx op).2.rtiFrame = s.rtiFrame :=
  State.modeOnly_rtiFrame (s.eaExtIdx_modeOnly op)
@[simp] theorem State.eaExtIdx_pc (s : State) (op : ExtIdx) : (s.eaExtIdx op).2.pc = s.pc :=
  State.modeOnly_pc (s.eaExtIdx_modeOnly op)
@[simp] theorem State.eaExtIdx_special (s : State) (op : ExtIdx) : (s.eaExtIdx op).2.special = s.special :=
  State.modeOnly_special (s.eaExtIdx_modeOnly op)
@[simp] theorem State.eaExtIdx_bus (s : State) (op : ExtIdx) : (s.eaExtIdx op).2.bus = s.bus :=
  State.modeOnly_bus (s.eaExtIdx_modeOnly op)

@[simp] theorem State.src8_cfg (s : State) (op : Src8) : (s.src8 op).2.cfg = s.cfg :=
  State.modeOnly_cfg (s.src8_modeOnly op)
@[simp] theorem State.src8_a (s : State) (op : Src8) : (s.src8 op).2.a = s.a :=
  State.modeOnly_a (s.src8_modeOnly op)
@[simp] theorem State.src8_b (s : State) (op : Src8) : (s.src8 op).2.b = s.b :=
  State.modeOnly_b (s.src8_modeOnly op)
@[simp] theorem State.src8_ccr (s : State) (op : Src8) : (s.src8 op).2.ccr = s.ccr :=
  State.modeOnly_ccr (s.src8_modeOnly op)
@[simp] theorem State.src8_ccrh (s : State) (op : Src8) : (s.src8 op).2.ccrh = s.ccrh :=
  State.modeOnly_ccrh (s.src8_modeOnly op)
@[simp] theorem State.src8_tmp1 (s : State) (op : Src8) : (s.src8 op).2.tmp1 = s.tmp1 :=
  State.modeOnly_tmp1 (s.src8_modeOnly op)
@[simp] theorem State.src8_tmp2 (s : State) (op : Src8) : (s.src8 op).2.tmp2 = s.tmp2 :=
  State.modeOnly_tmp2 (s.src8_modeOnly op)
@[simp] theorem State.src8_tmp3 (s : State) (op : Src8) : (s.src8 op).2.tmp3 = s.tmp3 :=
  State.modeOnly_tmp3 (s.src8_modeOnly op)
@[simp] theorem State.src8_ppage (s : State) (op : Src8) : (s.src8 op).2.ppage = s.ppage :=
  State.modeOnly_ppage (s.src8_modeOnly op)
@[simp] theorem State.src8_gpage (s : State) (op : Src8) : (s.src8 op).2.gpage = s.gpage :=
  State.modeOnly_gpage (s.src8_modeOnly op)
@[simp] theorem State.src8_direct (s : State) (op : Src8) : (s.src8 op).2.direct = s.direct :=
  State.modeOnly_direct (s.src8_modeOnly op)
@[simp] theorem State.src8_vectorBase (s : State) (op : Src8) : (s.src8 op).2.vectorBase = s.vectorBase :=
  State.modeOnly_vectorBase (s.src8_modeOnly op)
@[simp] theorem State.src8_run (s : State) (op : Src8) : (s.src8 op).2.run = s.run :=
  State.modeOnly_run (s.src8_modeOnly op)
@[simp] theorem State.src8_iDelay (s : State) (op : Src8) : (s.src8 op).2.iDelay = s.iDelay :=
  State.modeOnly_iDelay (s.src8_modeOnly op)
@[simp] theorem State.src8_wav (s : State) (op : Src8) : (s.src8 op).2.wav = s.wav :=
  State.modeOnly_wav (s.src8_modeOnly op)
@[simp] theorem State.src8_mem (s : State) (op : Src8) : (s.src8 op).2.mem = s.mem :=
  State.modeOnly_mem (s.src8_modeOnly op)
@[simp] theorem State.src8_inputs (s : State) (op : Src8) : (s.src8 op).2.inputs = s.inputs :=
  State.modeOnly_inputs (s.src8_modeOnly op)
@[simp] theorem State.src8_tick (s : State) (op : Src8) : (s.src8 op).2.tick = s.tick :=
  State.modeOnly_tick (s.src8_modeOnly op)
@[simp] theorem State.src8_stale (s : State) (op : Src8) : (s.src8 op).2.stale = s.stale :=
  State.modeOnly_stale (s.src8_modeOnly op)
@[simp] theorem State.src8_pageStored (s : State) (op : Src8) : (s.src8 op).2.pageStored = s.pageStored :=
  State.modeOnly_pageStored (s.src8_modeOnly op)
@[simp] theorem State.src8_rtiFrame (s : State) (op : Src8) : (s.src8 op).2.rtiFrame = s.rtiFrame :=
  State.modeOnly_rtiFrame (s.src8_modeOnly op)
@[simp] theorem State.src8_pc (s : State) (op : Src8) : (s.src8 op).2.pc = s.pc :=
  State.modeOnly_pc (s.src8_modeOnly op)
@[simp] theorem State.src8_special (s : State) (op : Src8) : (s.src8 op).2.special = s.special :=
  State.modeOnly_special (s.src8_modeOnly op)
@[simp] theorem State.src8_bus (s : State) (op : Src8) : (s.src8 op).2.bus = s.bus :=
  State.modeOnly_bus (s.src8_modeOnly op)

@[simp] theorem State.src16_cfg (s : State) (op : Src16) : (s.src16 op).2.cfg = s.cfg :=
  State.modeOnly_cfg (s.src16_modeOnly op)
@[simp] theorem State.src16_a (s : State) (op : Src16) : (s.src16 op).2.a = s.a :=
  State.modeOnly_a (s.src16_modeOnly op)
@[simp] theorem State.src16_b (s : State) (op : Src16) : (s.src16 op).2.b = s.b :=
  State.modeOnly_b (s.src16_modeOnly op)
@[simp] theorem State.src16_ccr (s : State) (op : Src16) : (s.src16 op).2.ccr = s.ccr :=
  State.modeOnly_ccr (s.src16_modeOnly op)
@[simp] theorem State.src16_ccrh (s : State) (op : Src16) : (s.src16 op).2.ccrh = s.ccrh :=
  State.modeOnly_ccrh (s.src16_modeOnly op)
@[simp] theorem State.src16_tmp1 (s : State) (op : Src16) : (s.src16 op).2.tmp1 = s.tmp1 :=
  State.modeOnly_tmp1 (s.src16_modeOnly op)
@[simp] theorem State.src16_tmp2 (s : State) (op : Src16) : (s.src16 op).2.tmp2 = s.tmp2 :=
  State.modeOnly_tmp2 (s.src16_modeOnly op)
@[simp] theorem State.src16_tmp3 (s : State) (op : Src16) : (s.src16 op).2.tmp3 = s.tmp3 :=
  State.modeOnly_tmp3 (s.src16_modeOnly op)
@[simp] theorem State.src16_ppage (s : State) (op : Src16) : (s.src16 op).2.ppage = s.ppage :=
  State.modeOnly_ppage (s.src16_modeOnly op)
@[simp] theorem State.src16_gpage (s : State) (op : Src16) : (s.src16 op).2.gpage = s.gpage :=
  State.modeOnly_gpage (s.src16_modeOnly op)
@[simp] theorem State.src16_direct (s : State) (op : Src16) : (s.src16 op).2.direct = s.direct :=
  State.modeOnly_direct (s.src16_modeOnly op)
@[simp] theorem State.src16_vectorBase (s : State) (op : Src16) : (s.src16 op).2.vectorBase = s.vectorBase :=
  State.modeOnly_vectorBase (s.src16_modeOnly op)
@[simp] theorem State.src16_run (s : State) (op : Src16) : (s.src16 op).2.run = s.run :=
  State.modeOnly_run (s.src16_modeOnly op)
@[simp] theorem State.src16_iDelay (s : State) (op : Src16) : (s.src16 op).2.iDelay = s.iDelay :=
  State.modeOnly_iDelay (s.src16_modeOnly op)
@[simp] theorem State.src16_wav (s : State) (op : Src16) : (s.src16 op).2.wav = s.wav :=
  State.modeOnly_wav (s.src16_modeOnly op)
@[simp] theorem State.src16_mem (s : State) (op : Src16) : (s.src16 op).2.mem = s.mem :=
  State.modeOnly_mem (s.src16_modeOnly op)
@[simp] theorem State.src16_inputs (s : State) (op : Src16) : (s.src16 op).2.inputs = s.inputs :=
  State.modeOnly_inputs (s.src16_modeOnly op)
@[simp] theorem State.src16_tick (s : State) (op : Src16) : (s.src16 op).2.tick = s.tick :=
  State.modeOnly_tick (s.src16_modeOnly op)
@[simp] theorem State.src16_stale (s : State) (op : Src16) : (s.src16 op).2.stale = s.stale :=
  State.modeOnly_stale (s.src16_modeOnly op)
@[simp] theorem State.src16_pageStored (s : State) (op : Src16) : (s.src16 op).2.pageStored = s.pageStored :=
  State.modeOnly_pageStored (s.src16_modeOnly op)
@[simp] theorem State.src16_rtiFrame (s : State) (op : Src16) : (s.src16 op).2.rtiFrame = s.rtiFrame :=
  State.modeOnly_rtiFrame (s.src16_modeOnly op)
@[simp] theorem State.src16_pc (s : State) (op : Src16) : (s.src16 op).2.pc = s.pc :=
  State.modeOnly_pc (s.src16_modeOnly op)
@[simp] theorem State.src16_special (s : State) (op : Src16) : (s.src16 op).2.special = s.special :=
  State.modeOnly_special (s.src16_modeOnly op)
@[simp] theorem State.src16_bus (s : State) (op : Src16) : (s.src16 op).2.bus = s.bus :=
  State.modeOnly_bus (s.src16_modeOnly op)

end Sys2Proof.Machine
end

