-- ==== Sys2Proof/Laws/Frames.lean ====
section
/-!
SUPPORT. Frames: what the end of an instruction leaves alone, by the shape of that end.
-/

namespace Sys2Proof.Machine

/-- The three spellings of the N, Z and V of a value agree. -/
@[simp] theorem nzv0_eq_loadedCcr {n : Nat} (f : Ccr) (v : BitVec n) : f.nzv0 v = loadedCcr f v := rfl

/-- The marks of an instruction whose stores follow its addressing mode. -/
theorem State.marked_of_mode {s s1 t t1 : State} {target : Option AutoReg} (hm : s.modeOnly s1 target) {l : List Loc}
    (h : s1.marked t1 l) (ht : t.marks = t1.marks) : s.marked t l :=
  State.marked_congr h (State.modeOnly_bus hm) (State.modeOnly_pc hm)
    (State.marks_eq.mpr ⟨State.modeOnly_stale hm, State.modeOnly_pageStored hm⟩) ht

/-- An instruction that writes registers and flags only. -/
theorem State.frame_of_bus {s s1 t : State} {target : Option AutoReg} (hm : s.modeOnly s1 target) (hp : t.pc = s1.pc)
    (hs : t.special = s1.special) (hb : t.bus = s1.bus) (hq : t.marks = s1.marks) : s.frame s1 t target [] :=
  ⟨hm, hp.trans (State.modeOnly_pc hm), hs.trans (State.modeOnly_special hm),
    State.bytesKept_of_bus (hb.trans (State.modeOnly_bus hm)) [], State.marked_of_mode hm (State.marked_nil hq) rfl⟩

/-- An instruction with no memory operand that writes registers and flags only. -/
theorem State.still_of_bus {s t : State} (hp : t.pc = s.pc) (hs : t.special = s.special) (hb : t.bus = s.bus)
    (hq : t.marks = s.marks) : s.still t :=
  ⟨hp, hs, State.bytesKept_of_bus hb [], State.marked_nil hq⟩

/-- An instruction that stores a byte and writes flags. -/
theorem State.frame_of_write8 {s s1 : State} {target : Option AutoReg} (hm : s.modeOnly s1 target) (a : Word) (v : Byte)
    (f : Ccr) : s.frame s1 ((s1.write8 a v).setCcr f) target [s1.locate a] := by
  refine ⟨hm, by simp [State.modeOnly_pc hm], by simp [State.modeOnly_special hm], fun l hl => ?_,
    State.marked_of_mode hm (s1.marked_write8 a v) rfl⟩
  rw [State.peek_setCcr, State.peek_write8_other _ _ _ (by simpa using hl),
    State.peek_of_bus (State.modeOnly_bus hm)]

/-- The byte such an instruction stored. -/
theorem State.storedByte_write8 (s : State) (a : Word) (v : Byte) (f : Ccr) :
    s.storedByte ((s.write8 a v).setCcr f) a v := by
  rw [State.storedByte, State.peek_setCcr, State.peek_write8_same]

/-- An instruction that stores a word and writes flags. -/
theorem State.frame_of_write16 {s s1 : State} {target : Option AutoReg} (hm : s.modeOnly s1 target) (a v : Word)
    (f : Ccr) : s.frame s1 ((s1.write16 a v).setCcr f) target (s1.wordLocs a v) := by
  refine ⟨hm, by simp [State.modeOnly_pc hm], by simp [State.modeOnly_special hm], fun l hl => ?_,
    State.marked_of_mode hm (s1.marked_write16 a v) rfl⟩
  simp only [State.wordLocs, List.mem_cons, List.not_mem_nil, or_false, not_or] at hl
  rw [State.peek_setCcr, State.peek_write16_other _ _ _ hl.1 hl.2, State.peek_of_bus (State.modeOnly_bus hm)]

/-- The word such an instruction stored. -/
theorem State.storedWord_write16 (s : State) (a v : Word) (f : Ccr) :
    s.storedWord ((s.write16 a v).setCcr f) a v := by
  refine ⟨?_, State.storedByte_write8 _ _ _ f⟩
  rw [State.storedByte, State.peek_setCcr, State.write16,
    State.peek_write8_other _ _ _ (s.locate_second_ne a (hiByte v)).symm, State.peek_write8_same]

/-- An instruction that stores a byte of global memory and writes flags. -/
theorem State.frame_of_gwrite8 {s s1 : State} {target : Option AutoReg} (hm : s.modeOnly s1 target) (p : BitVec 7)
    (a : Word) (v : Byte) (f : Ccr) :
    s.frame s1 ((s1.gwrite8 p a v).setCcr f) target [s1.locAt (globalKey p a)] := by
  refine ⟨hm, by simp [State.modeOnly_pc hm], by simp [State.modeOnly_special hm], fun l hl => ?_,
    State.marked_of_mode hm (s1.marked_store _ v) rfl⟩
  rw [State.peek_setCcr, State.peek_gwrite8_other _ _ _ _ (by simpa using hl), State.peek_of_bus (State.modeOnly_bus hm)]

/-- The bytes of a word of global memory do not lie at one location. -/
theorem State.global_second_ne (s : State) (p q : BitVec 7) (a : Word) :
    s.locAt (globalKey q (a + 1#16)) ≠ s.locAt (globalKey p a) := by
  intro h
  have := State.locAt_mod h
  rw [globalKey_mod, globalKey_mod] at this
  bv_omega

/-- A store of global memory moves no global address. -/
theorem State.locAt_gwrite8 (s : State) (p : BitVec 7) (a : Word) (v : Byte) (k : Nat) :
    (s.gwrite8 p a v).locAt k = s.locAt k :=
  State.locAt_of_cfg (State.gwrite8_cfg _ _ _ _) k

/-- What a location holds after a store does not depend on a store to another. -/
theorem State.kept_store_other (s : State) {l j : Loc} (h : j ≠ l) (v w : Byte) :
    (s.store l w).kept j v = s.kept j v := by
  cases j <;>
    simp only [State.kept, State.store_cfg, State.peek_store_other s w h, State.gpageByte_of_tick (State.store_tick s l w)]

/-- The bytes a global word store leaves, and every other byte. -/
theorem State.peek_gwrite16 (s : State) (a v : Word) :
    (s.gwrite16 a v).peek (s.locAt (globalKey s.gpage a)) = s.kept (s.locAt (globalKey s.gpage a)) (hiByte v) ∧
      (s.gwrite16 a v).peek (s.locAt (globalKey (s.gnextPage a) (a + 1#16))) =
        s.kept (s.locAt (globalKey (s.gnextPage a) (a + 1#16))) (loByte v) ∧
      ∀ l, l ∉ s.globalLocs a → (s.gwrite16 a v).peek l = s.peek l := by
  have hne := s.global_second_ne s.gpage (s.gnextPage a) a
  refine ⟨?_, ?_, fun l hl => ?_⟩
  · rw [State.gwrite16, State.peek_gwrite8_other, State.gwrite8, State.peek_store_same]
    rw [State.locAt_gwrite8]
    exact hne.symm
  · rw [State.gwrite16, State.gwrite8, State.locAt_gwrite8, State.peek_store_same, State.gwrite8,
      State.kept_store_other _ hne]
  · simp only [State.globalLocs, List.mem_cons, List.not_mem_nil, or_false, not_or] at hl
    rw [State.gwrite16, State.peek_gwrite8_other, State.peek_gwrite8_other _ _ _ _ hl.1]
    rw [State.locAt_gwrite8]
    exact hl.2

/-- A word of global memory marks what it should. -/
theorem State.marked_gwrite16 (s : State) (a v : Word) : s.marked (s.gwrite16 a v) (s.globalLocs a) := by
  have h := s.marked_store_store (s.locAt (globalKey s.gpage a)) (s.locAt (globalKey (s.gnextPage a) (a + 1#16)))
    (hiByte v) (loByte v)
  rw [State.gwrite16, State.gwrite8, State.locAt_gwrite8]
  exact h

/-- An instruction that stores a word of global memory and writes flags. -/
theorem State.frame_of_gwrite16 {s s1 : State} {target : Option AutoReg} (hm : s.modeOnly s1 target) (a v : Word)
    (f : Ccr) : s.frame s1 ((s1.gwrite16 a v).setCcr f) target (s1.globalLocs a) := by
  refine ⟨hm, by simp [State.modeOnly_pc hm], by simp [State.modeOnly_special hm], fun l hl => ?_,
    State.marked_of_mode hm (s1.marked_gwrite16 a v) rfl⟩
  rw [State.peek_setCcr, (s1.peek_gwrite16 a v).2.2 l hl, State.peek_of_bus (State.modeOnly_bus hm)]

/-- States with one bus agree on global locations and pages. -/
theorem State.global_of_bus {s t : State} (h : t.bus = s.bus) (a : Word) (k : Nat) :
    t.locAt k = s.locAt k ∧ t.gpage = s.gpage ∧ t.gnextPage a = s.gnextPage a := by
  simp only [State.bus, Prod.mk.injEq] at h
  obtain ⟨h0, _, h2, _, _, _, h6⟩ := h
  refine ⟨State.locAt_of_cfg h0 k, h2, ?_⟩
  unfold State.gnextPage
  rw [h2, h6]

end Sys2Proof.Machine
end

