-- ==== Sys2Proof/Laws/Stack.lean ====
section
/-!
SUPPORT. Stores in plain memory, and what stacking a frame leaves there (60_exceptions.md R621, R622).
-/

namespace Sys2Proof.Machine

/-! ## Words and bytes -/

/-- A joined word as a number. -/
theorem joinBytes_toNat (h l : Byte) : (joinBytes h l).toNat = 256 * h.toNat + l.toNat := by
  unfold joinBytes
  rw [BitVec.toNat_append, Nat.shiftLeft_eq, Nat.mul_comm, ← Nat.two_pow_add_eq_or_of_lt (i := 8) l.isLt]

/-- Offsets below an address add up. -/
theorem word_sub_sub (p a b : Word) : p - a - b = p - (a + b) := by bv_omega

/-- Going down and up again. -/
theorem word_sub_add (p a b : Word) : p - a + b = p - (a - b) := by bv_omega

/-- Different offsets, different addresses. -/
theorem word_sub_eq (p a b : Word) : p - a = p - b ↔ a = b := by
  constructor
  · intro h
    bv_omega
  · rintro rfl
    rfl

/-! ## Plain memory -/

/-- A store to a cell moves no address. -/
theorem State.locate_write8 {s : State} {a : Word} (h : s.ram a) (v : Byte) (b : Word) :
    (s.write8 a v).locate b = s.locate b := by
  obtain ⟨k, hk, -⟩ := h
  rw [State.write8, hk, State.locate_store (by simp)]

/-- After a store to a cell, every address: the stored byte at each that lies there, the old one elsewhere. -/
theorem State.read8_write8 {s : State} {a : Word} (h : s.ram a) (v : Byte) (b : Word) :
    (s.write8 a v).read8 b = if s.locate b = s.locate a then v else s.read8 b := by
  rw [State.read8, State.locate_write8 h]
  split
  · next e =>
    obtain ⟨k, hk, hw⟩ := h
    rw [e, State.peek_write8_same, hk, State.kept, if_pos hw]
  · next e => exact State.peek_write8_other _ _ _ e

/-- Two places less than a block below an address lie apart. -/
theorem State.locate_below {s : State} {base c w : Word} (hc : c.toNat < 16) (hw : w.toNat < 16) :
    s.locate (base - w) = s.locate (base - c) ↔ w = c := by
  constructor
  · intro h
    have := State.locate_mod (s := s) (t := s) rfl h
    bv_omega
  · rintro rfl
    rfl

/-- After a store to a cell less than a block below an address, every other place there. -/
theorem State.read8_write8_below {s : State} {base c w : Word} (h : s.ram (base - c)) (hc : c.toNat < 16)
    (hw : w.toNat < 16) (v : Byte) :
    (s.write8 (base - c) v).read8 (base - w) = if w = c then v else s.read8 (base - w) := by
  rw [State.read8_write8 h]
  simp only [State.locate_below hc hw]

/-- SP moves no address. -/
@[simp] theorem State.locate_setSp (s : State) (v b : Word) : (s.setSp v).locate b = s.locate b := rfl

/-- SP changes no byte. -/
@[simp] theorem State.read8_setSp (s : State) (v b : Word) : (s.setSp v).read8 b = s.read8 b := rfl

/-- What can be written depends on the parameters and on where an address lies. -/
theorem State.ram_congr {s t : State} (hc : t.cfg = s.cfg) {a : Word} (hl : t.locate a = s.locate a) (h : s.ram a) :
    t.ram a := by
  obtain ⟨k, hk, hw⟩ := h
  exact ⟨k, hl.trans hk, by rw [hc]; exact hw⟩

/-- What is above the SP's new place in a plain stretch below the SP can be written. -/
theorem State.plain_ram {s : State} {p : Word} {n : Nat} (h : s.plain (p - BitVec.ofNat 16 n) n) (hn : n < 65536)
    {j : Nat} (h0 : 0 < j) (hj : j ≤ n) : s.ram (p - BitVec.ofNat 16 j) := by
  have e : p - BitVec.ofNat 16 n + BitVec.ofNat 16 (n - j) = p - BitVec.ofNat 16 j := by
    rw [word_sub_add]
    congr 1
    apply BitVec.eq_of_toNat_eq
    simp only [BitVec.toNat_sub, BitVec.toNat_ofNat]
    omega
  rw [← e]
  exact (h (n - j) (by omega)).1

/-! ## The frame -/

/-- The SP below a frame. -/
theorem State.stackFrame_sp (s : State) (rtn : Word) :
    (s.stackFrame rtn).sp = s.sp - BitVec.ofNat 16 s.frameSize := by
  unfold State.stackFrame State.pushCcr State.frameSize
  simp only [State.push16_cfg]
  split <;> simp [word_sub_sub]

/-- A word pushed into plain memory, less than a block below an address. -/
theorem State.push16_plain {t : State} {base c d : Word} (hp : t.sp - 2#16 = base - c) (hq : base - c + 1#16 = base - d)
    (hc : c.toNat < 16) (hd : d.toNat < 16) (lp : t.ram (base - c)) (lq : t.ram (base - d)) (v : Word) :
    (∀ b, (t.push16 v).locate b = t.locate b) ∧
      ∀ w : Word, w.toNat < 16 → (t.push16 v).read8 (base - w) =
        if w = d then loByte v else if w = c then hiByte v else t.read8 (base - w) := by
  unfold State.push16 State.write16
  rw [hp, hq]
  have lp' : (t.setSp (base - c)).ram (base - c) := State.ram_congr rfl rfl lp
  have l1 : ∀ b, ((t.setSp (base - c)).write8 (base - c) (hiByte v)).locate b = t.locate b := fun b =>
    State.locate_write8 lp' _ b
  have lq' : ((t.setSp (base - c)).write8 (base - c) (hiByte v)).ram (base - d) :=
    State.ram_congr (by simp) (l1 _) lq
  refine ⟨fun b => ?_, fun w hw => ?_⟩
  · rw [State.locate_write8 lq', l1]
  · rw [State.read8_write8_below lq' hd hw, State.read8_write8_below lp' hc hw, State.read8_setSp]

/-- A byte pushed into plain memory, less than a block below an address. -/
theorem State.push8_plain {t : State} {base c : Word} (hp : t.sp - 1#16 = base - c) (hc : c.toNat < 16)
    (lp : t.ram (base - c)) (v : Byte) :
    (∀ b, (t.push8 v).locate b = t.locate b) ∧
      ∀ w : Word, w.toNat < 16 → (t.push8 v).read8 (base - w) = if w = c then v else t.read8 (base - w) := by
  unfold State.push8
  rw [hp]
  have lp' : (t.setSp (base - c)).ram (base - c) := State.ram_congr rfl rfl lp
  exact ⟨fun b => State.locate_write8 lp' _ b, fun w hw => by rw [State.read8_write8_below lp' hc hw, State.read8_setSp]⟩

/-- What the four words of a frame leave in plain memory, byte by byte. -/
theorem State.stackWords_plain {s : State} {n : Nat} (hn : n < 65536) (h8 : 8 ≤ n)
    (h : s.plain (s.sp - BitVec.ofNat 16 n) n) (rtn : Word) :
    let u := (((s.push16 rtn).push16 s.y).push16 s.x).push16 (joinBytes s.b s.a)
    (∀ b, u.locate b = s.locate b) ∧
    ∀ w : Word, w.toNat < 16 → u.read8 (s.sp - w) =
      if w = 7#16 then s.a else if w = 8#16 then s.b
      else if w = 5#16 then loByte s.x else if w = 6#16 then hiByte s.x
      else if w = 3#16 then loByte s.y else if w = 4#16 then hiByte s.y
      else if w = 1#16 then loByte rtn else if w = 2#16 then hiByte rtn else s.read8 (s.sp - w) := by
  have c : ∀ j, 0 < j → j ≤ 8 → s.ram (s.sp - BitVec.ofNat 16 j) := fun j h0 hj =>
    State.plain_ram h hn h0 (by omega)
  obtain ⟨l1, r1⟩ := State.push16_plain (t := s) (base := s.sp) (c := 2#16) (d := 1#16) rfl (by bv_omega) (by decide)
    (by decide) (c 2 (by decide) (by decide)) (c 1 (by decide) (by decide)) rtn
  obtain ⟨l2, r2⟩ := State.push16_plain (t := s.push16 rtn) (base := s.sp) (c := 4#16) (d := 3#16)
    (by simp [word_sub_sub]) (by bv_omega) (by decide) (by decide)
    (State.ram_congr (by simp) (l1 _) (c 4 (by decide) (by decide)))
    (State.ram_congr (by simp) (l1 _) (c 3 (by decide) (by decide))) s.y
  obtain ⟨l3, r3⟩ := State.push16_plain (t := (s.push16 rtn).push16 s.y) (base := s.sp) (c := 6#16) (d := 5#16)
    (by simp [word_sub_sub]) (by bv_omega) (by decide) (by decide)
    (State.ram_congr (by simp) (by rw [l2, l1]) (c 6 (by decide) (by decide)))
    (State.ram_congr (by simp) (by rw [l2, l1]) (c 5 (by decide) (by decide))) s.x
  obtain ⟨l4, r4⟩ := State.push16_plain (t := ((s.push16 rtn).push16 s.y).push16 s.x) (base := s.sp) (c := 8#16)
    (d := 7#16) (by simp [word_sub_sub]) (by bv_omega) (by decide) (by decide)
    (State.ram_congr (by simp) (by rw [l3, l2, l1]) (c 8 (by decide) (by decide)))
    (State.ram_congr (by simp) (by rw [l3, l2, l1]) (c 7 (by decide) (by decide))) (joinBytes s.b s.a)
  refine ⟨fun b => by rw [l4, l3, l2, l1], fun w hw => ?_⟩
  rw [r4 w hw, r3 w hw, r2 w hw, r1 w hw, hiByte_join, loByte_join]

/-- A word pushed into plain memory leaves every other location. -/
theorem State.push16_kept {t : State} {p q : Word} (hp : t.sp - 2#16 = p) (hq : p + 1#16 = q) (lp : t.ram p) (v : Word)
    {l : Loc} (h1 : l ≠ t.locate p) (h2 : l ≠ t.locate q) : (t.push16 v).peek l = t.peek l := by
  have lp' : (t.setSp p).ram p := State.ram_congr rfl rfl lp
  unfold State.push16
  rw [hp, State.peek_write16_other _ _ _ (by simpa using h1)]
  · exact State.peek_of_bus (State.setSp_bus t p) l
  · rw [hq, State.locate_write8 lp']
    simpa using h2

/-- A byte pushed leaves every other location. -/
theorem State.push8_kept {t : State} {p : Word} (hp : t.sp - 1#16 = p) (v : Byte) {l : Loc} (h1 : l ≠ t.locate p) :
    (t.push8 v).peek l = t.peek l := by
  unfold State.push8
  rw [hp, State.peek_write8_other _ _ _ (by simpa using h1)]
  exact State.peek_of_bus (State.setSp_bus t p) l

/-- A location outside a stretch below the SP. -/
theorem State.not_locsFrom {s : State} {p : Word} {n : Nat} (hn : n < 65536) {l : Loc}
    (hl : l ∉ s.locsFrom (p - BitVec.ofNat 16 n) n) {j : Nat} (h0 : 0 < j) (hj : j ≤ n) :
    l ≠ s.locate (p - BitVec.ofNat 16 j) := by
  rintro rfl
  refine hl (List.mem_map.mpr ⟨n - j, List.mem_range.mpr (by omega), ?_⟩)
  congr 1
  rw [word_sub_add]
  congr 1
  apply BitVec.eq_of_toNat_eq
  simp only [BitVec.toNat_sub, BitVec.toNat_ofNat]
  omega

/-- What stacking a frame does in plain memory: the frame is there, no address moves, and every other location keeps its
byte. -/
theorem State.stackFrame_plain {s : State} (h : s.plain (s.sp - BitVec.ofNat 16 s.frameSize) s.frameSize)
    (rtn : Word) :
    s.holdsFrame (s.stackFrame rtn) (s.sp - BitVec.ofNat 16 s.frameSize) rtn ∧
      (∀ b, (s.stackFrame rtn).locate b = s.locate b) ∧
      s.bytesKept (s.stackFrame rtn) (s.locsFrom (s.sp - BitVec.ofNat 16 s.frameSize) s.frameSize) := by
  have hn : s.frameSize < 65536 := by unfold State.frameSize; split <;> decide
  have h9 : 9 ≤ s.frameSize := by unfold State.frameSize; split <;> decide
  have c : ∀ j, 0 < j → j ≤ s.frameSize → s.ram (s.sp - BitVec.ofNat 16 j) := fun j h0 hj =>
    State.plain_ram h hn h0 hj
  have o : ∀ l ∉ s.locsFrom (s.sp - BitVec.ofNat 16 s.frameSize) s.frameSize, ∀ j, 0 < j → j ≤ s.frameSize →
      l ≠ s.locate (s.sp - BitVec.ofNat 16 j) := fun l hl j h0 hj => State.not_locsFrom hn hl h0 hj
  obtain ⟨lu, ru⟩ := State.stackWords_plain hn (by omega) h rtn
  have ku : ∀ l ∉ s.locsFrom (s.sp - BitVec.ofNat 16 s.frameSize) s.frameSize,
      ((((s.push16 rtn).push16 s.y).push16 s.x).push16 (joinBytes s.b s.a)).peek l = s.peek l := by
    intro l hl
    obtain ⟨l1, -⟩ := State.push16_plain (t := s) (base := s.sp) (c := 2#16) (d := 1#16) rfl (by bv_omega) (by decide)
      (by decide) (c 2 (by decide) (by omega)) (c 1 (by decide) (by omega)) rtn
    obtain ⟨l2, -⟩ := State.push16_plain (t := s.push16 rtn) (base := s.sp) (c := 4#16) (d := 3#16)
      (by simp [word_sub_sub]) (by bv_omega) (by decide) (by decide)
      (State.ram_congr (by simp) (l1 _) (c 4 (by decide) (by omega)))
      (State.ram_congr (by simp) (l1 _) (c 3 (by decide) (by omega))) s.y
    obtain ⟨l3, -⟩ := State.push16_plain (t := (s.push16 rtn).push16 s.y) (base := s.sp) (c := 6#16) (d := 5#16)
      (by simp [word_sub_sub]) (by bv_omega) (by decide) (by decide)
      (State.ram_congr (by simp) (by rw [l2, l1]) (c 6 (by decide) (by omega)))
      (State.ram_congr (by simp) (by rw [l2, l1]) (c 5 (by decide) (by omega))) s.x
    rw [State.push16_kept (p := s.sp - 8#16) (q := s.sp - 7#16) (by simp [word_sub_sub]) (by bv_omega)
        (State.ram_congr (by simp) (by rw [l3, l2, l1]) (c 8 (by decide) (by omega))) _
        (by rw [l3, l2, l1]; exact o l hl 8 (by decide) (by omega))
        (by rw [l3, l2, l1]; exact o l hl 7 (by decide) (by omega)),
      State.push16_kept (p := s.sp - 6#16) (q := s.sp - 5#16) (by simp [word_sub_sub]) (by bv_omega)
        (State.ram_congr (by simp) (by rw [l2, l1]) (c 6 (by decide) (by omega))) _
        (by rw [l2, l1]; exact o l hl 6 (by decide) (by omega)) (by rw [l2, l1]; exact o l hl 5 (by decide) (by omega)),
      State.push16_kept (p := s.sp - 4#16) (q := s.sp - 3#16) (by simp [word_sub_sub]) (by bv_omega)
        (State.ram_congr (by simp) (l1 _) (c 4 (by decide) (by omega))) _
        (by rw [l1]; exact o l hl 4 (by decide) (by omega)) (by rw [l1]; exact o l hl 3 (by decide) (by omega)),
      State.push16_kept (p := s.sp - 2#16) (q := s.sp - 1#16) rfl (by bv_omega) (c 2 (by decide) (by omega)) _
        (o l hl 2 (by decide) (by omega)) (o l hl 1 (by decide) (by omega))]
  have hx : ∀ t : State, t.cfg = s.cfg → t.ccr = s.ccr → t.ccrh = s.ccrh →
      t.pushCcr = if s.cfg.version.isX then t.push16 s.ccrw else t.push8 s.ccrByte := fun t e1 e2 e3 => by
    unfold State.pushCcr State.ccrw State.ccrhByte State.ccrByte
    rw [e1, e2, e3]
  cases hv : s.cfg.version.isX with
  | true =>
    have hf : s.frameSize = 10 := by simp [State.frameSize, hv]
    rw [hf] at c o ku ⊢
    have e : s.stackFrame rtn =
        ((((s.push16 rtn).push16 s.y).push16 s.x).push16 (joinBytes s.b s.a)).push16 s.ccrw := by
      unfold State.stackFrame
      rw [hx _ (by simp) (by simp) (by simp), hv]
      rfl
    have c10 := State.ram_congr (by simp) (lu _) (c 10 (by decide) (by decide))
    obtain ⟨l5, r5⟩ := State.push16_plain (t := (((s.push16 rtn).push16 s.y).push16 s.x).push16 (joinBytes s.b s.a))
      (base := s.sp) (c := 10#16) (d := 9#16) (by simp [word_sub_sub]) (by bv_omega) (by decide) (by decide) c10
      (State.ram_congr (by simp) (lu _) (c 9 (by decide) (by decide))) s.ccrw
    rw [← e] at l5 r5
    refine ⟨?_, fun b => by rw [l5, lu], fun l hl => ?_⟩
    · unfold State.holdsFrame
      simp [hv, State.read16, word_sub_add, r5, ru]
    · rw [e, State.push16_kept (p := s.sp - 10#16) (q := s.sp - 9#16) (by simp [word_sub_sub]) (by bv_omega) c10 _
        (by rw [lu]; exact o l hl 10 (by decide) (by decide))
        (by rw [lu]; exact o l hl 9 (by decide) (by decide)), ku l hl]
  | false =>
    have hf : s.frameSize = 9 := by simp [State.frameSize, hv]
    rw [hf] at c o ku ⊢
    have e : s.stackFrame rtn =
        ((((s.push16 rtn).push16 s.y).push16 s.x).push16 (joinBytes s.b s.a)).push8 s.ccrByte := by
      unfold State.stackFrame
      rw [hx _ (by simp) (by simp) (by simp), hv]
      rfl
    obtain ⟨l5, r5⟩ := State.push8_plain (t := (((s.push16 rtn).push16 s.y).push16 s.x).push16 (joinBytes s.b s.a))
      (base := s.sp) (c := 9#16) (by simp [word_sub_sub]) (by decide)
      (State.ram_congr (by simp) (lu _) (c 9 (by decide) (by decide))) s.ccrByte
    rw [← e] at l5 r5
    refine ⟨?_, fun b => by rw [l5, lu], fun l hl => ?_⟩
    · unfold State.holdsFrame
      simp [hv, State.read16, word_sub_add, r5, ru, State.ccrByte]
    · rw [e, State.push8_kept (p := s.sp - 9#16) (by simp [word_sub_sub]) _
        (by rw [lu]; exact o l hl 9 (by decide) (by decide)), ku l hl]

end Sys2Proof.Machine
end

