-- ==== Sys2Proof/Laws/Ops.lean ====
section
/-!
SUPPORT. What the shared operations do, once for each: change of flow, pulls, the CCR write paths, stacking, taking an
exception and returning from one. The field lemmas say what each leaves alone.
-/

namespace Sys2Proof.Machine

/-! ## Change of flow and pulls -/

@[simp] theorem State.jump_pc (s : State) (p : Word) : (s.jump p).pc = p := rfl
@[simp] theorem State.jump_stale (s : State) (p : Word) : (s.jump p).stale = [] := rfl
@[simp] theorem State.jump_pageStored (s : State) (p : Word) : (s.jump p).pageStored = s.pageStored := rfl
@[simp] theorem State.jump_cfg (s : State) (p : Word) : (s.jump p).cfg = s.cfg := rfl
@[simp] theorem State.jump_a (s : State) (p : Word) : (s.jump p).a = s.a := rfl
@[simp] theorem State.jump_b (s : State) (p : Word) : (s.jump p).b = s.b := rfl
@[simp] theorem State.jump_x (s : State) (p : Word) : (s.jump p).x = s.x := rfl
@[simp] theorem State.jump_y (s : State) (p : Word) : (s.jump p).y = s.y := rfl
@[simp] theorem State.jump_sp (s : State) (p : Word) : (s.jump p).sp = s.sp := rfl
@[simp] theorem State.jump_ccr (s : State) (p : Word) : (s.jump p).ccr = s.ccr := rfl
@[simp] theorem State.jump_ccrh (s : State) (p : Word) : (s.jump p).ccrh = s.ccrh := rfl
@[simp] theorem State.jump_tmp1 (s : State) (p : Word) : (s.jump p).tmp1 = s.tmp1 := rfl
@[simp] theorem State.jump_tmp2 (s : State) (p : Word) : (s.jump p).tmp2 = s.tmp2 := rfl
@[simp] theorem State.jump_tmp3 (s : State) (p : Word) : (s.jump p).tmp3 = s.tmp3 := rfl
@[simp] theorem State.jump_ppage (s : State) (p : Word) : (s.jump p).ppage = s.ppage := rfl
@[simp] theorem State.jump_gpage (s : State) (p : Word) : (s.jump p).gpage = s.gpage := rfl
@[simp] theorem State.jump_direct (s : State) (p : Word) : (s.jump p).direct = s.direct := rfl
@[simp] theorem State.jump_vectorBase (s : State) (p : Word) : (s.jump p).vectorBase = s.vectorBase := rfl
@[simp] theorem State.jump_run (s : State) (p : Word) : (s.jump p).run = s.run := rfl
@[simp] theorem State.jump_iDelay (s : State) (p : Word) : (s.jump p).iDelay = s.iDelay := rfl
@[simp] theorem State.jump_wav (s : State) (p : Word) : (s.jump p).wav = s.wav := rfl
@[simp] theorem State.jump_mem (s : State) (p : Word) : (s.jump p).mem = s.mem := rfl
@[simp] theorem State.jump_inputs (s : State) (p : Word) : (s.jump p).inputs = s.inputs := rfl
@[simp] theorem State.jump_tick (s : State) (p : Word) : (s.jump p).tick = s.tick := rfl
@[simp] theorem State.jump_rtiFrame (s : State) (p : Word) : (s.jump p).rtiFrame = s.rtiFrame := rfl

@[simp] theorem State.jump_bus (s : State) (p : Word) : (s.jump p).bus = s.bus := by simp [State.bus]
@[simp] theorem State.jump_special (s : State) (p : Word) : (s.jump p).special = s.special := rfl
@[simp] theorem State.jump_regs (s : State) (p : Word) : (s.jump p).regs = s.regs := rfl

@[simp] theorem State.drop_sp (s : State) (n : Nat) : (s.drop n).sp = s.sp + BitVec.ofNat 16 n := rfl
@[simp] theorem State.drop_cfg (s : State) (n : Nat) : (s.drop n).cfg = s.cfg := rfl
@[simp] theorem State.drop_a (s : State) (n : Nat) : (s.drop n).a = s.a := rfl
@[simp] theorem State.drop_b (s : State) (n : Nat) : (s.drop n).b = s.b := rfl
@[simp] theorem State.drop_x (s : State) (n : Nat) : (s.drop n).x = s.x := rfl
@[simp] theorem State.drop_y (s : State) (n : Nat) : (s.drop n).y = s.y := rfl
@[simp] theorem State.drop_pc (s : State) (n : Nat) : (s.drop n).pc = s.pc := rfl
@[simp] theorem State.drop_ccr (s : State) (n : Nat) : (s.drop n).ccr = s.ccr := rfl
@[simp] theorem State.drop_ccrh (s : State) (n : Nat) : (s.drop n).ccrh = s.ccrh := rfl
@[simp] theorem State.drop_tmp1 (s : State) (n : Nat) : (s.drop n).tmp1 = s.tmp1 := rfl
@[simp] theorem State.drop_tmp2 (s : State) (n : Nat) : (s.drop n).tmp2 = s.tmp2 := rfl
@[simp] theorem State.drop_tmp3 (s : State) (n : Nat) : (s.drop n).tmp3 = s.tmp3 := rfl
@[simp] theorem State.drop_ppage (s : State) (n : Nat) : (s.drop n).ppage = s.ppage := rfl
@[simp] theorem State.drop_gpage (s : State) (n : Nat) : (s.drop n).gpage = s.gpage := rfl
@[simp] theorem State.drop_direct (s : State) (n : Nat) : (s.drop n).direct = s.direct := rfl
@[simp] theorem State.drop_vectorBase (s : State) (n : Nat) : (s.drop n).vectorBase = s.vectorBase := rfl
@[simp] theorem State.drop_run (s : State) (n : Nat) : (s.drop n).run = s.run := rfl
@[simp] theorem State.drop_iDelay (s : State) (n : Nat) : (s.drop n).iDelay = s.iDelay := rfl
@[simp] theorem State.drop_wav (s : State) (n : Nat) : (s.drop n).wav = s.wav := rfl
@[simp] theorem State.drop_mem (s : State) (n : Nat) : (s.drop n).mem = s.mem := rfl
@[simp] theorem State.drop_inputs (s : State) (n : Nat) : (s.drop n).inputs = s.inputs := rfl
@[simp] theorem State.drop_tick (s : State) (n : Nat) : (s.drop n).tick = s.tick := rfl
@[simp] theorem State.drop_stale (s : State) (n : Nat) : (s.drop n).stale = s.stale := rfl
@[simp] theorem State.drop_pageStored (s : State) (n : Nat) : (s.drop n).pageStored = s.pageStored := rfl
@[simp] theorem State.drop_rtiFrame (s : State) (n : Nat) : (s.drop n).rtiFrame = s.rtiFrame := rfl

@[simp] theorem State.drop_bus (s : State) (n : Nat) : (s.drop n).bus = s.bus := by simp [State.bus]
@[simp] theorem State.drop_special (s : State) (n : Nat) : (s.drop n).special = s.special := rfl

/-! ## The CCR write paths (R200, R201) -/

/-- A CCR write is a new CCR and an inhibit. -/
theorem State.writeCcrAs_eq (s : State) (user : Bool) (v : Byte) :
    s.writeCcrAs user v =
      (s.setCcr (writtenCcr user s.ccr v)).setIDelay (s.iDelay || s.ccr.i && !(writtenCcr user s.ccr v).i) := by
  unfold State.writeCcrAs
  cases hi : s.ccr.i <;> cases hw : (writtenCcr user s.ccr v).i <;> simp [hw] <;> rfl

@[simp] theorem State.writeCcr_ccr (s : State) (v : Byte) :
    (s.writeCcr v).ccr = writtenCcr s.userState s.ccr v := by rw [State.writeCcr, State.writeCcrAs_eq]; rfl
@[simp] theorem State.writeCcr_iDelay (s : State) (v : Byte) :
    (s.writeCcr v).iDelay = (s.iDelay || s.ccr.i && !(writtenCcr s.userState s.ccr v).i) := by
  rw [State.writeCcr, State.writeCcrAs_eq]; rfl
@[simp] theorem State.writeCcr_cfg (s : State) (v : Byte) : (s.writeCcr v).cfg = s.cfg := by rw [State.writeCcr, State.writeCcrAs_eq]; rfl
@[simp] theorem State.writeCcr_a (s : State) (v : Byte) : (s.writeCcr v).a = s.a := by rw [State.writeCcr, State.writeCcrAs_eq]; rfl
@[simp] theorem State.writeCcr_b (s : State) (v : Byte) : (s.writeCcr v).b = s.b := by rw [State.writeCcr, State.writeCcrAs_eq]; rfl
@[simp] theorem State.writeCcr_x (s : State) (v : Byte) : (s.writeCcr v).x = s.x := by rw [State.writeCcr, State.writeCcrAs_eq]; rfl
@[simp] theorem State.writeCcr_y (s : State) (v : Byte) : (s.writeCcr v).y = s.y := by rw [State.writeCcr, State.writeCcrAs_eq]; rfl
@[simp] theorem State.writeCcr_sp (s : State) (v : Byte) : (s.writeCcr v).sp = s.sp := by rw [State.writeCcr, State.writeCcrAs_eq]; rfl
@[simp] theorem State.writeCcr_pc (s : State) (v : Byte) : (s.writeCcr v).pc = s.pc := by rw [State.writeCcr, State.writeCcrAs_eq]; rfl
@[simp] theorem State.writeCcr_ccrh (s : State) (v : Byte) : (s.writeCcr v).ccrh = s.ccrh := by rw [State.writeCcr, State.writeCcrAs_eq]; rfl
@[simp] theorem State.writeCcr_tmp1 (s : State) (v : Byte) : (s.writeCcr v).tmp1 = s.tmp1 := by rw [State.writeCcr, State.writeCcrAs_eq]; rfl
@[simp] theorem State.writeCcr_tmp2 (s : State) (v : Byte) : (s.writeCcr v).tmp2 = s.tmp2 := by rw [State.writeCcr, State.writeCcrAs_eq]; rfl
@[simp] theorem State.writeCcr_tmp3 (s : State) (v : Byte) : (s.writeCcr v).tmp3 = s.tmp3 := by rw [State.writeCcr, State.writeCcrAs_eq]; rfl
@[simp] theorem State.writeCcr_ppage (s : State) (v : Byte) : (s.writeCcr v).ppage = s.ppage := by rw [State.writeCcr, State.writeCcrAs_eq]; rfl
@[simp] theorem State.writeCcr_gpage (s : State) (v : Byte) : (s.writeCcr v).gpage = s.gpage := by rw [State.writeCcr, State.writeCcrAs_eq]; rfl
@[simp] theorem State.writeCcr_direct (s : State) (v : Byte) : (s.writeCcr v).direct = s.direct := by rw [State.writeCcr, State.writeCcrAs_eq]; rfl
@[simp] theorem State.writeCcr_vectorBase (s : State) (v : Byte) : (s.writeCcr v).vectorBase = s.vectorBase := by rw [State.writeCcr, State.writeCcrAs_eq]; rfl
@[simp] theorem State.writeCcr_run (s : State) (v : Byte) : (s.writeCcr v).run = s.run := by rw [State.writeCcr, State.writeCcrAs_eq]; rfl
@[simp] theorem State.writeCcr_wav (s : State) (v : Byte) : (s.writeCcr v).wav = s.wav := by rw [State.writeCcr, State.writeCcrAs_eq]; rfl
@[simp] theorem State.writeCcr_mem (s : State) (v : Byte) : (s.writeCcr v).mem = s.mem := by rw [State.writeCcr, State.writeCcrAs_eq]; rfl
@[simp] theorem State.writeCcr_inputs (s : State) (v : Byte) : (s.writeCcr v).inputs = s.inputs := by rw [State.writeCcr, State.writeCcrAs_eq]; rfl
@[simp] theorem State.writeCcr_tick (s : State) (v : Byte) : (s.writeCcr v).tick = s.tick := by rw [State.writeCcr, State.writeCcrAs_eq]; rfl
@[simp] theorem State.writeCcr_stale (s : State) (v : Byte) : (s.writeCcr v).stale = s.stale := by rw [State.writeCcr, State.writeCcrAs_eq]; rfl
@[simp] theorem State.writeCcr_pageStored (s : State) (v : Byte) : (s.writeCcr v).pageStored = s.pageStored := by rw [State.writeCcr, State.writeCcrAs_eq]; rfl
@[simp] theorem State.writeCcr_rtiFrame (s : State) (v : Byte) : (s.writeCcr v).rtiFrame = s.rtiFrame := by rw [State.writeCcr, State.writeCcrAs_eq]; rfl

@[simp] theorem State.writeCcr_bus (s : State) (v : Byte) : (s.writeCcr v).bus = s.bus := by simp [State.bus]

@[simp] theorem State.writeCcrh_ccrh (s : State) (v : Byte) :
    (s.writeCcrh v).ccrh = writtenCcrh s.cfg.version s.userState s.ccrh v := rfl
@[simp] theorem State.writeCcrh_cfg (s : State) (v : Byte) : (s.writeCcrh v).cfg = s.cfg := rfl
@[simp] theorem State.writeCcrh_a (s : State) (v : Byte) : (s.writeCcrh v).a = s.a := rfl
@[simp] theorem State.writeCcrh_b (s : State) (v : Byte) : (s.writeCcrh v).b = s.b := rfl
@[simp] theorem State.writeCcrh_x (s : State) (v : Byte) : (s.writeCcrh v).x = s.x := rfl
@[simp] theorem State.writeCcrh_y (s : State) (v : Byte) : (s.writeCcrh v).y = s.y := rfl
@[simp] theorem State.writeCcrh_sp (s : State) (v : Byte) : (s.writeCcrh v).sp = s.sp := rfl
@[simp] theorem State.writeCcrh_pc (s : State) (v : Byte) : (s.writeCcrh v).pc = s.pc := rfl
@[simp] theorem State.writeCcrh_ccr (s : State) (v : Byte) : (s.writeCcrh v).ccr = s.ccr := rfl
@[simp] theorem State.writeCcrh_tmp1 (s : State) (v : Byte) : (s.writeCcrh v).tmp1 = s.tmp1 := rfl
@[simp] theorem State.writeCcrh_tmp2 (s : State) (v : Byte) : (s.writeCcrh v).tmp2 = s.tmp2 := rfl
@[simp] theorem State.writeCcrh_tmp3 (s : State) (v : Byte) : (s.writeCcrh v).tmp3 = s.tmp3 := rfl
@[simp] theorem State.writeCcrh_ppage (s : State) (v : Byte) : (s.writeCcrh v).ppage = s.ppage := rfl
@[simp] theorem State.writeCcrh_gpage (s : State) (v : Byte) : (s.writeCcrh v).gpage = s.gpage := rfl
@[simp] theorem State.writeCcrh_direct (s : State) (v : Byte) : (s.writeCcrh v).direct = s.direct := rfl
@[simp] theorem State.writeCcrh_vectorBase (s : State) (v : Byte) : (s.writeCcrh v).vectorBase = s.vectorBase := rfl
@[simp] theorem State.writeCcrh_run (s : State) (v : Byte) : (s.writeCcrh v).run = s.run := rfl
@[simp] theorem State.writeCcrh_iDelay (s : State) (v : Byte) : (s.writeCcrh v).iDelay = s.iDelay := rfl
@[simp] theorem State.writeCcrh_wav (s : State) (v : Byte) : (s.writeCcrh v).wav = s.wav := rfl
@[simp] theorem State.writeCcrh_mem (s : State) (v : Byte) : (s.writeCcrh v).mem = s.mem := rfl
@[simp] theorem State.writeCcrh_inputs (s : State) (v : Byte) : (s.writeCcrh v).inputs = s.inputs := rfl
@[simp] theorem State.writeCcrh_tick (s : State) (v : Byte) : (s.writeCcrh v).tick = s.tick := rfl
@[simp] theorem State.writeCcrh_stale (s : State) (v : Byte) : (s.writeCcrh v).stale = s.stale := rfl
@[simp] theorem State.writeCcrh_pageStored (s : State) (v : Byte) : (s.writeCcrh v).pageStored = s.pageStored := rfl
@[simp] theorem State.writeCcrh_rtiFrame (s : State) (v : Byte) : (s.writeCcrh v).rtiFrame = s.rtiFrame := rfl

@[simp] theorem State.writeCcrh_bus (s : State) (v : Byte) : (s.writeCcrh v).bus = s.bus := by simp [State.bus]

/-- A CCRW write is a CCRH, a CCR and an inhibit, under the privilege of before. -/
theorem State.writeCcrw_eq (s : State) (w : Word) :
    s.writeCcrw w = (s.writeCcr (loByte w)).setCcrh (writtenCcrh s.cfg.version s.userState s.ccrh (hiByte w)) := by
  unfold State.writeCcrw State.writeCcr
  rw [State.writeCcrAs_eq, State.writeCcrAs_eq]
  rfl

@[simp] theorem State.writeCcrw_ccr (s : State) (w : Word) :
    (s.writeCcrw w).ccr = writtenCcr s.userState s.ccr (loByte w) := by rw [State.writeCcrw_eq]; simp
@[simp] theorem State.writeCcrw_ccrh (s : State) (w : Word) :
    (s.writeCcrw w).ccrh = writtenCcrh s.cfg.version s.userState s.ccrh (hiByte w) := by rw [State.writeCcrw_eq]; simp
@[simp] theorem State.writeCcrw_iDelay (s : State) (w : Word) :
    (s.writeCcrw w).iDelay = (s.iDelay || s.ccr.i && !(writtenCcr s.userState s.ccr (loByte w)).i) := by
  rw [State.writeCcrw_eq]; simp
@[simp] theorem State.writeCcrw_cfg (s : State) (w : Word) : (s.writeCcrw w).cfg = s.cfg := by rw [State.writeCcrw_eq]; simp
@[simp] theorem State.writeCcrw_a (s : State) (w : Word) : (s.writeCcrw w).a = s.a := by rw [State.writeCcrw_eq]; simp
@[simp] theorem State.writeCcrw_b (s : State) (w : Word) : (s.writeCcrw w).b = s.b := by rw [State.writeCcrw_eq]; simp
@[simp] theorem State.writeCcrw_x (s : State) (w : Word) : (s.writeCcrw w).x = s.x := by rw [State.writeCcrw_eq]; simp
@[simp] theorem State.writeCcrw_y (s : State) (w : Word) : (s.writeCcrw w).y = s.y := by rw [State.writeCcrw_eq]; simp
@[simp] theorem State.writeCcrw_sp (s : State) (w : Word) : (s.writeCcrw w).sp = s.sp := by rw [State.writeCcrw_eq]; simp
@[simp] theorem State.writeCcrw_pc (s : State) (w : Word) : (s.writeCcrw w).pc = s.pc := by rw [State.writeCcrw_eq]; simp
@[simp] theorem State.writeCcrw_tmp1 (s : State) (w : Word) : (s.writeCcrw w).tmp1 = s.tmp1 := by rw [State.writeCcrw_eq]; simp
@[simp] theorem State.writeCcrw_tmp2 (s : State) (w : Word) : (s.writeCcrw w).tmp2 = s.tmp2 := by rw [State.writeCcrw_eq]; simp
@[simp] theorem State.writeCcrw_tmp3 (s : State) (w : Word) : (s.writeCcrw w).tmp3 = s.tmp3 := by rw [State.writeCcrw_eq]; simp
@[simp] theorem State.writeCcrw_ppage (s : State) (w : Word) : (s.writeCcrw w).ppage = s.ppage := by rw [State.writeCcrw_eq]; simp
@[simp] theorem State.writeCcrw_gpage (s : State) (w : Word) : (s.writeCcrw w).gpage = s.gpage := by rw [State.writeCcrw_eq]; simp
@[simp] theorem State.writeCcrw_direct (s : State) (w : Word) : (s.writeCcrw w).direct = s.direct := by rw [State.writeCcrw_eq]; simp
@[simp] theorem State.writeCcrw_vectorBase (s : State) (w : Word) : (s.writeCcrw w).vectorBase = s.vectorBase := by rw [State.writeCcrw_eq]; simp
@[simp] theorem State.writeCcrw_run (s : State) (w : Word) : (s.writeCcrw w).run = s.run := by rw [State.writeCcrw_eq]; simp
@[simp] theorem State.writeCcrw_wav (s : State) (w : Word) : (s.writeCcrw w).wav = s.wav := by rw [State.writeCcrw_eq]; simp
@[simp] theorem State.writeCcrw_mem (s : State) (w : Word) : (s.writeCcrw w).mem = s.mem := by rw [State.writeCcrw_eq]; simp
@[simp] theorem State.writeCcrw_inputs (s : State) (w : Word) : (s.writeCcrw w).inputs = s.inputs := by rw [State.writeCcrw_eq]; simp
@[simp] theorem State.writeCcrw_tick (s : State) (w : Word) : (s.writeCcrw w).tick = s.tick := by rw [State.writeCcrw_eq]; simp
@[simp] theorem State.writeCcrw_stale (s : State) (w : Word) : (s.writeCcrw w).stale = s.stale := by rw [State.writeCcrw_eq]; simp
@[simp] theorem State.writeCcrw_pageStored (s : State) (w : Word) : (s.writeCcrw w).pageStored = s.pageStored := by rw [State.writeCcrw_eq]; simp
@[simp] theorem State.writeCcrw_rtiFrame (s : State) (w : Word) : (s.writeCcrw w).rtiFrame = s.rtiFrame := by rw [State.writeCcrw_eq]; simp

@[simp] theorem State.writeCcrw_bus (s : State) (w : Word) : (s.writeCcrw w).bus = s.bus := by simp [State.bus]

/-- A CCR write never raises X (R28). -/
theorem writtenCcr_x (user : Bool) (old : Ccr) (v : Byte) (h : old.x = false) : (writtenCcr user old v).x = false := by
  cases user <;> simp [writtenCcr, h]

/-- A CCR write in user state leaves S, X and I (R37, R200). -/
theorem writtenCcr_user (old : Ccr) (v : Byte) :
    ((writtenCcr true old v).s, (writtenCcr true old v).x, (writtenCcr true old v).i) = (old.s, old.x, old.i) := rfl

/-! ## Stacking (R621 steps 2 to 6) -/

@[simp] theorem State.pushCcr_cfg (s : State) : s.pushCcr.cfg = s.cfg := by unfold State.pushCcr; split <;> simp
@[simp] theorem State.pushCcr_a (s : State) : s.pushCcr.a = s.a := by unfold State.pushCcr; split <;> simp
@[simp] theorem State.pushCcr_b (s : State) : s.pushCcr.b = s.b := by unfold State.pushCcr; split <;> simp
@[simp] theorem State.pushCcr_x (s : State) : s.pushCcr.x = s.x := by unfold State.pushCcr; split <;> simp
@[simp] theorem State.pushCcr_y (s : State) : s.pushCcr.y = s.y := by unfold State.pushCcr; split <;> simp
@[simp] theorem State.pushCcr_pc (s : State) : s.pushCcr.pc = s.pc := by unfold State.pushCcr; split <;> simp
@[simp] theorem State.pushCcr_ccr (s : State) : s.pushCcr.ccr = s.ccr := by unfold State.pushCcr; split <;> simp
@[simp] theorem State.pushCcr_ccrh (s : State) : s.pushCcr.ccrh = s.ccrh := by unfold State.pushCcr; split <;> simp
@[simp] theorem State.pushCcr_tmp1 (s : State) : s.pushCcr.tmp1 = s.tmp1 := by unfold State.pushCcr; split <;> simp
@[simp] theorem State.pushCcr_tmp2 (s : State) : s.pushCcr.tmp2 = s.tmp2 := by unfold State.pushCcr; split <;> simp
@[simp] theorem State.pushCcr_tmp3 (s : State) : s.pushCcr.tmp3 = s.tmp3 := by unfold State.pushCcr; split <;> simp
@[simp] theorem State.pushCcr_run (s : State) : s.pushCcr.run = s.run := by unfold State.pushCcr; split <;> simp
@[simp] theorem State.pushCcr_iDelay (s : State) : s.pushCcr.iDelay = s.iDelay := by unfold State.pushCcr; split <;> simp
@[simp] theorem State.pushCcr_wav (s : State) : s.pushCcr.wav = s.wav := by unfold State.pushCcr; split <;> simp
@[simp] theorem State.pushCcr_inputs (s : State) : s.pushCcr.inputs = s.inputs := by unfold State.pushCcr; split <;> simp
@[simp] theorem State.pushCcr_tick (s : State) : s.pushCcr.tick = s.tick := by unfold State.pushCcr; split <;> simp
@[simp] theorem State.pushCcr_rtiFrame (s : State) : s.pushCcr.rtiFrame = s.rtiFrame := by unfold State.pushCcr; split <;> simp
@[simp] theorem State.pushCcr_special (s : State) : s.pushCcr.special = s.special := by simp [State.special]

@[simp] theorem State.stackFrame_cfg (s : State) (r : Word) : (s.stackFrame r).cfg = s.cfg := by simp [State.stackFrame]
@[simp] theorem State.stackFrame_a (s : State) (r : Word) : (s.stackFrame r).a = s.a := by simp [State.stackFrame]
@[simp] theorem State.stackFrame_b (s : State) (r : Word) : (s.stackFrame r).b = s.b := by simp [State.stackFrame]
@[simp] theorem State.stackFrame_x (s : State) (r : Word) : (s.stackFrame r).x = s.x := by simp [State.stackFrame]
@[simp] theorem State.stackFrame_y (s : State) (r : Word) : (s.stackFrame r).y = s.y := by simp [State.stackFrame]
@[simp] theorem State.stackFrame_pc (s : State) (r : Word) : (s.stackFrame r).pc = s.pc := by simp [State.stackFrame]
@[simp] theorem State.stackFrame_ccr (s : State) (r : Word) : (s.stackFrame r).ccr = s.ccr := by simp [State.stackFrame]
@[simp] theorem State.stackFrame_ccrh (s : State) (r : Word) : (s.stackFrame r).ccrh = s.ccrh := by simp [State.stackFrame]
@[simp] theorem State.stackFrame_tmp1 (s : State) (r : Word) : (s.stackFrame r).tmp1 = s.tmp1 := by simp [State.stackFrame]
@[simp] theorem State.stackFrame_tmp2 (s : State) (r : Word) : (s.stackFrame r).tmp2 = s.tmp2 := by simp [State.stackFrame]
@[simp] theorem State.stackFrame_tmp3 (s : State) (r : Word) : (s.stackFrame r).tmp3 = s.tmp3 := by simp [State.stackFrame]
@[simp] theorem State.stackFrame_run (s : State) (r : Word) : (s.stackFrame r).run = s.run := by simp [State.stackFrame]
@[simp] theorem State.stackFrame_iDelay (s : State) (r : Word) : (s.stackFrame r).iDelay = s.iDelay := by simp [State.stackFrame]
@[simp] theorem State.stackFrame_wav (s : State) (r : Word) : (s.stackFrame r).wav = s.wav := by simp [State.stackFrame]
@[simp] theorem State.stackFrame_inputs (s : State) (r : Word) : (s.stackFrame r).inputs = s.inputs := by simp [State.stackFrame]
@[simp] theorem State.stackFrame_tick (s : State) (r : Word) : (s.stackFrame r).tick = s.tick := by simp [State.stackFrame]
@[simp] theorem State.stackFrame_rtiFrame (s : State) (r : Word) : (s.stackFrame r).rtiFrame = s.rtiFrame := by simp [State.stackFrame]
@[simp] theorem State.stackFrame_special (s : State) (r : Word) : (s.stackFrame r).special = s.special := by
  simp [State.special]

/-! ## Taking an exception (R621 steps 7 and 8) -/

@[simp] theorem State.startHandler_pc (s : State) (k : EntryKind) (h : Word) : (s.startHandler k h).pc = h := by
  simp [State.startHandler]
@[simp] theorem State.startHandler_ccr (s : State) (k : EntryKind) (h : Word) :
    (s.startHandler k h).ccr = entryCcr k s.ccr := by
  simp [State.startHandler]
@[simp] theorem State.startHandler_ccrh (s : State) (k : EntryKind) (h : Word) :
    (s.startHandler k h).ccrh = entryCcrh s.cfg.version k s.ccrh := by
  simp [State.startHandler]
@[simp] theorem State.startHandler_run (s : State) (k : EntryKind) (h : Word) : (s.startHandler k h).run = .running := by
  simp [State.startHandler]
@[simp] theorem State.startHandler_iDelay (s : State) (k : EntryKind) (h : Word) :
    (s.startHandler k h).iDelay = false := by
  simp [State.startHandler]
@[simp] theorem State.startHandler_stale (s : State) (k : EntryKind) (h : Word) : (s.startHandler k h).stale = [] := by
  simp [State.startHandler]
@[simp] theorem State.startHandler_cfg (s : State) (k : EntryKind) (h : Word) : (s.startHandler k h).cfg = s.cfg := by simp [State.startHandler]
@[simp] theorem State.startHandler_a (s : State) (k : EntryKind) (h : Word) : (s.startHandler k h).a = s.a := by simp [State.startHandler]
@[simp] theorem State.startHandler_b (s : State) (k : EntryKind) (h : Word) : (s.startHandler k h).b = s.b := by simp [State.startHandler]
@[simp] theorem State.startHandler_x (s : State) (k : EntryKind) (h : Word) : (s.startHandler k h).x = s.x := by simp [State.startHandler]
@[simp] theorem State.startHandler_y (s : State) (k : EntryKind) (h : Word) : (s.startHandler k h).y = s.y := by simp [State.startHandler]
@[simp] theorem State.startHandler_sp (s : State) (k : EntryKind) (h : Word) : (s.startHandler k h).sp = s.sp := by simp [State.startHandler]
@[simp] theorem State.startHandler_tmp1 (s : State) (k : EntryKind) (h : Word) : (s.startHandler k h).tmp1 = s.tmp1 := by simp [State.startHandler]
@[simp] theorem State.startHandler_tmp2 (s : State) (k : EntryKind) (h : Word) : (s.startHandler k h).tmp2 = s.tmp2 := by simp [State.startHandler]
@[simp] theorem State.startHandler_tmp3 (s : State) (k : EntryKind) (h : Word) : (s.startHandler k h).tmp3 = s.tmp3 := by simp [State.startHandler]
@[simp] theorem State.startHandler_ppage (s : State) (k : EntryKind) (h : Word) : (s.startHandler k h).ppage = s.ppage := by simp [State.startHandler]
@[simp] theorem State.startHandler_gpage (s : State) (k : EntryKind) (h : Word) : (s.startHandler k h).gpage = s.gpage := by simp [State.startHandler]
@[simp] theorem State.startHandler_direct (s : State) (k : EntryKind) (h : Word) : (s.startHandler k h).direct = s.direct := by simp [State.startHandler]
@[simp] theorem State.startHandler_vectorBase (s : State) (k : EntryKind) (h : Word) : (s.startHandler k h).vectorBase = s.vectorBase := by simp [State.startHandler]
@[simp] theorem State.startHandler_wav (s : State) (k : EntryKind) (h : Word) : (s.startHandler k h).wav = s.wav := by simp [State.startHandler]
@[simp] theorem State.startHandler_mem (s : State) (k : EntryKind) (h : Word) : (s.startHandler k h).mem = s.mem := by simp [State.startHandler]
@[simp] theorem State.startHandler_inputs (s : State) (k : EntryKind) (h : Word) : (s.startHandler k h).inputs = s.inputs := by simp [State.startHandler]
@[simp] theorem State.startHandler_tick (s : State) (k : EntryKind) (h : Word) : (s.startHandler k h).tick = s.tick := by simp [State.startHandler]
@[simp] theorem State.startHandler_pageStored (s : State) (k : EntryKind) (h : Word) : (s.startHandler k h).pageStored = s.pageStored := by simp [State.startHandler]
@[simp] theorem State.startHandler_rtiFrame (s : State) (k : EntryKind) (h : Word) : (s.startHandler k h).rtiFrame = s.rtiFrame := by simp [State.startHandler]

@[simp] theorem State.startHandler_bus (s : State) (k : EntryKind) (h : Word) : (s.startHandler k h).bus = s.bus := by simp [State.bus]

/-- The CCRH an entry leaves (R642, R643). -/
theorem entryCcrh_eq (v : Version) (k : EntryKind) (f : Ccrh) :
    entryCcrh v k f = { u := f.u && !v.hasUser, ipl := entryIpl v.isX f.ipl k } := by
  cases k <;> cases hv : v.hasUser <;> simp [entryCcrh, entryIpl, hv]

/-- The CCR an entry leaves (R640, R641). -/
theorem entryCcr_eq (k : EntryKind) (f : Ccr) : entryCcr k f = { f with i := true, x := entryX f.x k } := by
  cases k <;> rfl

/-- A handler started from a state that agrees with `s` but for the stack: the masks and the PC are those of an entry. -/
theorem State.startHandler_vectored {s u : State} (hr : (u.a, u.b, u.x, u.y) = (s.a, s.b, s.x, s.y))
    (hc : u.ccr = s.ccr) (hs : u.special = s.special) (vec : Byte) (k : EntryKind) :
    s.vectored (u.startHandler k (s.vector vec)) vec (entryX s.ccr.x k) (entryIpl s.cfg.version.isX s.ccrh.ipl k) := by
  refine ⟨by simp [State.vector, State.vectorPage], by simpa using hr, by simp [entryCcr_eq, hc], by simp, ?_⟩
  simp only [State.special, Prod.mk.injEq] at hs
  obtain ⟨h1, h2, h3⟩ := hs
  simp [State.special, entryCcrh_eq, h1, h2, h3]

/-- Taking an exception: the masks, the PC, and in plain memory the frame (R621, R622). -/
theorem State.enter_entered (s : State) (vec : Byte) (rtn : Word) (k : EntryKind) :
    s.entered (s.enter vec rtn k) vec rtn (entryX s.ccr.x k) (entryIpl s.cfg.version.isX s.ccrh.ipl k) := by
  unfold State.enter
  have hb : ((s.stackFrame rtn).startHandler k (s.vector vec)).bus = (s.stackFrame rtn).bus :=
    State.startHandler_bus _ _ _
  refine ⟨State.startHandler_vectored (by simp) (by simp) (by simp) vec k, ?_, fun hp => ?_⟩
  · rw [State.startHandler_sp]
    exact State.stackFrame_sp s rtn
  obtain ⟨h1, -, h3⟩ := State.stackFrame_plain (s := s) hp rtn
  refine ⟨?_, fun l hl => (State.peek_of_bus hb l).trans (h3 l hl)⟩
  unfold State.holdsFrame at h1 ⊢
  simp only [State.read16_of_bus hb, State.read8_of_bus hb]
  exact h1

/-! ## Returning from an exception (R541) -/

/-- The state after the status register is pulled: SP above it, CCR and CCRH as written, nothing else. -/
theorem State.pullCcr_eq (s : State) :
    s.pullCcr = if s.cfg.version.isX then (s.drop 2).writeCcrw (s.read16 s.sp) else (s.drop 1).writeCcr (s.read8 s.sp) :=
  rfl

/-- A return from an exception, each register from its place in the frame. -/
theorem State.returnFromException_spec (s : State) :
    let up : Word := if s.cfg.version.isX then s.sp + 2#16 else s.sp + 1#16
    let w := if s.cfg.version.isX then s.writeCcrw (s.read16 s.sp) else s.writeCcr (s.read8 s.sp)
    let t := s.returnFromException
    t.ccr = w.ccr ∧ t.ccrh = w.ccrh ∧ t.b = s.read8 up ∧ t.a = s.read8 (up + 1#16) ∧ t.x = s.read16 (up + 2#16) ∧
      t.y = s.read16 (up + 4#16) ∧ t.pc = s.read16 (up + 6#16) ∧ t.sp = up + 8#16 ∧
      t.special = (((s.setCcrh w.ccrh).setIDelay false).setRtiFrame true).special ∧ t.bus = s.bus := by
  have hsp : s.pullCcr.sp = if s.cfg.version.isX then s.sp + 2#16 else s.sp + 1#16 := by
    rw [State.pullCcr_eq]
    split <;> simp
  have hb : s.pullCcr.bus = s.bus := by
    rw [State.pullCcr_eq]
    split <;> simp
  have hu : ∀ n, (s.drop n).userState = s.userState := fun _ => rfl
  have hc : s.pullCcr.ccr = (if s.cfg.version.isX then s.writeCcrw (s.read16 s.sp) else s.writeCcr (s.read8 s.sp)).ccr := by
    rw [State.pullCcr_eq]
    split <;> simp [hu]
  have hh : s.pullCcr.ccrh =
      (if s.cfg.version.isX then s.writeCcrw (s.read16 s.sp) else s.writeCcr (s.read8 s.sp)).ccrh := by
    rw [State.pullCcr_eq]
    split <;> simp [hu]
  have h8 : ∀ (t : State) (a : Word), t.bus = s.bus → t.read8 a = s.read8 a := fun t a h => State.read8_of_bus h a
  have h16 : ∀ (t : State) (a : Word), t.bus = s.bus → t.read16 a = s.read16 a := fun t a h => State.read16_of_bus h a
  have hs : (s.pullCcr.cfg, s.pullCcr.tmp1, s.pullCcr.tmp2, s.pullCcr.tmp3, s.pullCcr.run, s.pullCcr.wav,
      s.pullCcr.inputs, s.pullCcr.tick) = (s.cfg, s.tmp1, s.tmp2, s.tmp3, s.run, s.wav, s.inputs, s.tick) := by
    rw [State.pullCcr_eq]
    split <;> simp
  simp only [Prod.mk.injEq] at hs
  intro up w t
  have up1 : up + 2#16 + 2#16 = up + 4#16 := by bv_omega
  have up2 : up + 4#16 + 2#16 = up + 6#16 := by bv_omega
  have up3 : up + 4#16 + 4#16 = up + 8#16 := by bv_omega
  have e : t = ((((((((((s.pullCcr.setIDelay false).drop 2).setB (s.read8 up)).setA (s.read8 (up + 1#16))).drop 2).setX
      (s.read16 (up + 2#16))).setY (s.read16 (up + 4#16))).drop 4).jump (s.read16 (up + 6#16))).setRtiFrame true) := by
    have g : ∀ u : State, u.bus = s.bus → u.sp = up →
        (let ba := u.top16
          let s2 := ((u.drop 2).setB (hiByte ba)).setA (loByte ba)
          let s3 := (s2.drop 2).setX s2.top16
          let pc := s3.read16 (s3.sp + 2#16)
          let y := s3.read16 s3.sp
          (((s3.setY y).drop 4).jump pc).setRtiFrame true) =
        ((((((((((u.drop 2).setB (s.read8 up)).setA (s.read8 (up + 1#16))).drop 2).setX
          (s.read16 (up + 2#16))).setY (s.read16 (up + 4#16))).drop 4).jump (s.read16 (up + 6#16))).setRtiFrame
          true)) := by
      intro u hu hup
      have t16 : u.top16 = joinBytes (s.read8 up) (s.read8 (up + 1#16)) := by rw [State.top16, h16 u _ hu, hup]; rfl
      simp only [t16, hiByte_join, loByte_join]
      have x16 : (((u.drop 2).setB (s.read8 up)).setA (s.read8 (up + 1#16))).top16 = s.read16 (up + 2#16) := by
        rw [State.top16, h16 _ _ (by simp [hu])]
        simp [hup]
      have p16 : ∀ v a, (((((u.drop 2).setB (s.read8 up)).setA (s.read8 (up + 1#16))).drop 2).setX v).read16 a =
          s.read16 a := fun v a => h16 _ _ (by simp [hu])
      simp only [x16, p16]
      simp only [State.setX_sp, State.drop_sp, State.setA_sp, State.setB_sp, hup, BitVec.ofNat_eq_ofNat, up1, up2]
    exact g _ (by simp [hb]) (by simp [hsp, up])
  obtain ⟨a1, a2, a3, a4, a5, a6, a7, a8⟩ := hs
  rw [e]
  refine ⟨by simp [hc, w], by simp [hh, w], by simp, by simp, by simp, by simp, by simp, ?_, ?_, by simp [hb]⟩
  · simp only [State.setRtiFrame_sp, State.jump_sp, State.drop_sp, State.setY_sp, State.setX_sp, State.setA_sp,
      State.setB_sp, State.setIDelay_sp, hsp, BitVec.ofNat_eq_ofNat]
    exact (by rw [← up3, ← up1] : up + 2#16 + 2#16 + 4#16 = up + 8#16)
  · simp [State.special, a1, a2, a3, a4, a5, a6, a7, a8, hh, w]

/-! ## Reset -/

/-- The registers of the memory controller and the interrupt module after a reset. -/
theorem State.mcuReset_eq (s : State) :
    s.mcuReset = { s with
      ppage := s.cfg.ppage0, gpage := s.cfg.gpage0, direct := s.cfg.direct0, vectorBase := s.cfg.vectorBase0 } :=
  rfl

/-- What a reset leaves in every field the spec or the parameters fix, and what it keeps. -/
theorem State.resetSequence_fields (s : State) (kind : ResetKind) :
    let t := s.resetSequence kind
    t.cfg = s.cfg ∧ t.mem = s.mem ∧ t.inputs = s.inputs ∧ t.tick = s.tick ∧
      t.pc = s.mcuReset.read16 (joinBytes 0xFF#8 kind.vec) ∧ t.ccr.s = true ∧ t.ccr.x = true ∧ t.ccr.i = true ∧
      t.ccrh = { u := false, ipl := 0#3 } ∧ t.run = .running ∧ t.iDelay = false ∧ t.wav = none ∧ t.stale = [] ∧
      t.rtiFrame = false ∧ t.pageStored = false ∧
      (t.ppage, t.gpage, t.direct, t.vectorBase) =
        (s.cfg.ppage0, s.cfg.gpage0, s.cfg.direct0, s.cfg.vectorBase0) := by
  simp [State.resetSequence, State.mcuReset]

end Sys2Proof.Machine
end

