-- ==== Sys2Proof/Laws/PerInstr.lean ====
section
/-!
SUPPORT. Laws of every instruction, one lemma per constructor: its encoding takes between one and eight bytes
(30_encoding.md R90).
-/

namespace Sys2Proof.Laws.LengthBound

/-- An instruction's encoding takes between one and eight bytes (R90). -/
def Statement (i : Instr) : Prop := 1 ≤ (encode i).length ∧ (encode i).length ≤ 8

theorem indexed_length (xb : Indexed) : 1 ≤ xb.bytes.length ∧ xb.bytes.length ≤ 3 := by
  cases xb <;> exact ⟨Nat.le_of_ble_eq_true rfl, Nat.le_of_ble_eq_true rfl⟩

theorem src8_length (i d x e : Byte) (op : Src8) :
    1 ≤ (op.bytes i d x e).length ∧ (op.bytes i d x e).length ≤ 5 := by
  rcases op with v | (a | a | xb)
  · exact ⟨Nat.le_of_ble_eq_true rfl, Nat.le_of_ble_eq_true rfl⟩
  · exact ⟨Nat.le_of_ble_eq_true rfl, Nat.le_of_ble_eq_true rfl⟩
  · exact ⟨Nat.le_of_ble_eq_true rfl, Nat.le_of_ble_eq_true rfl⟩
  · have := indexed_length xb
    simp only [Src8.bytes, List.length_cons]; omega

theorem src16_length (i d x e : Byte) (op : Src16) :
    1 ≤ (op.bytes i d x e).length ∧ (op.bytes i d x e).length ≤ 5 := by
  rcases op with v | (a | a | xb)
  · exact ⟨Nat.le_of_ble_eq_true rfl, Nat.le_of_ble_eq_true rfl⟩
  · exact ⟨Nat.le_of_ble_eq_true rfl, Nat.le_of_ble_eq_true rfl⟩
  · exact ⟨Nat.le_of_ble_eq_true rfl, Nat.le_of_ble_eq_true rfl⟩
  · have := indexed_length xb
    simp only [Src16.bytes, List.length_cons]; omega

theorem dirExtIdx_length (d x e : Byte) (op : DirExtIdx) :
    1 ≤ (op.bytes d x e).length ∧ (op.bytes d x e).length ≤ 5 := by
  rcases op with a | a | xb
  · exact ⟨Nat.le_of_ble_eq_true rfl, Nat.le_of_ble_eq_true rfl⟩
  · exact ⟨Nat.le_of_ble_eq_true rfl, Nat.le_of_ble_eq_true rfl⟩
  · have := indexed_length xb
    simp only [DirExtIdx.bytes, List.length_cons]; omega

theorem extIdx_length (x e : Byte) (op : ExtIdx) :
    1 ≤ (op.bytes x e).length ∧ (op.bytes x e).length ≤ 5 := by
  rcases op with a | xb
  · exact ⟨Nat.le_of_ble_eq_true rfl, Nat.le_of_ble_eq_true rfl⟩
  · have := indexed_length xb
    simp only [ExtIdx.bytes, List.length_cons]; omega

theorem move_length {α : Type} (base : Byte) (imm : α → List Byte) (m : Move α) (h : ∀ k, (imm k).length ≤ 2) :
    1 ≤ (m.bytes base imm).length ∧ (m.bytes base imm).length ≤ 7 := by
  rcases m with ⟨k, d⟩ | ⟨k, d⟩ | ⟨s, d⟩ | ⟨s, d⟩ | ⟨s, d⟩ | ⟨s, d⟩
  · have := h k
    simp only [Move.bytes, wordBytes, List.length_cons, List.length_append, List.length_nil]; omega
  · have := h k
    have := indexed_length d
    simp only [Move.bytes, List.length_cons, List.length_append]; omega
  · exact ⟨by simp [Move.bytes], by simp [Move.bytes, wordBytes]⟩
  · have := indexed_length d
    simp only [Move.bytes, wordBytes, List.length_cons, List.length_append, List.length_nil]; omega
  · have := indexed_length s
    simp only [Move.bytes, wordBytes, List.length_cons, List.length_append, List.length_nil]; omega
  · have := indexed_length s
    have := indexed_length d
    simp only [Move.bytes, List.length_cons, List.length_append]; omega

theorem call_length (op : CallOp) : 1 ≤ op.bytes.length ∧ op.bytes.length ≤ 5 := by
  rcases op with ⟨a, p⟩ | ⟨xb, p⟩ | xb
  · exact ⟨Nat.le_of_ble_eq_true rfl, Nat.le_of_ble_eq_true rfl⟩
  · have := indexed_length xb
    simp only [CallOp.bytes, List.length_cons, List.length_append, List.length_nil]; omega
  · have := indexed_length xb
    simp only [CallOp.bytes, List.length_cons]; omega

theorem indexed_bound (xb : Indexed) : 1 ≤ xb.bytes.length ∧ xb.bytes.length ≤ 5 := by
  have := indexed_length xb; omega

theorem bare {n : Nat} (h : 1 ≤ n ∧ n ≤ 5) : 1 ≤ n ∧ n ≤ 8 := by omega

theorem prefixed {n : Nat} (h : 1 ≤ n ∧ n ≤ 5) : 1 ≤ n + 1 ∧ n + 1 ≤ 8 := by omega

theorem prefixed_twice {n : Nat} (h : 1 ≤ n ∧ n ≤ 5) : 1 ≤ n + 1 + 1 ∧ n + 1 + 1 ≤ 8 := by omega

theorem prefixed_move {n : Nat} (h : 1 ≤ n ∧ n ≤ 7) : 1 ≤ n + 1 ∧ n + 1 ≤ 8 := by omega

theorem appended {l : List Byte} (t : List Byte) (h : 1 ≤ l.length ∧ l.length ≤ 5) (k : t.length ≤ 2) :
    1 ≤ (l ++ t).length ∧ (l ++ t).length ≤ 8 := by
  rw [List.length_append]; omega

theorem prefixed_appended {b : Byte} {l : List Byte} (t : List Byte) (h : 1 ≤ l.length ∧ l.length ≤ 5)
    (k : t.length ≤ 2) : 1 ≤ (b :: l ++ t).length ∧ (b :: l ++ t).length ≤ 8 := by
  rw [List.length_append, List.length_cons]; omega

theorem ldaa (op : Src8) : Statement (.ldaa op) := 
  bare (src8_length 0x86#8 0x96#8 0xA6#8 0xB6#8 op)

theorem ldab (op : Src8) : Statement (.ldab op) := 
  bare (src8_length 0xC6#8 0xD6#8 0xE6#8 0xF6#8 op)

theorem ldd (op : Src16) : Statement (.ldd op) := 
  bare (src16_length 0xCC#8 0xDC#8 0xEC#8 0xFC#8 op)

theorem lds (op : Src16) : Statement (.lds op) := 
  bare (src16_length 0xCF#8 0xDF#8 0xEF#8 0xFF#8 op)

theorem ldx (op : Src16) : Statement (.ldx op) := 
  bare (src16_length 0xCE#8 0xDE#8 0xEE#8 0xFE#8 op)

theorem ldy (op : Src16) : Statement (.ldy op) := 
  bare (src16_length 0xCD#8 0xDD#8 0xED#8 0xFD#8 op)

theorem leas (op : Indexed) : Statement (.leas op) := 
  prefixed (indexed_bound op)

theorem leax (op : Indexed) : Statement (.leax op) := 
  prefixed (indexed_bound op)

theorem leay (op : Indexed) : Statement (.leay op) := 
  prefixed (indexed_bound op)

theorem staa (op : DirExtIdx) : Statement (.staa op) := 
  bare (dirExtIdx_length 0x5A#8 0x6A#8 0x7A#8 op)

theorem stab (op : DirExtIdx) : Statement (.stab op) := 
  bare (dirExtIdx_length 0x5B#8 0x6B#8 0x7B#8 op)

theorem std (op : DirExtIdx) : Statement (.std op) := 
  bare (dirExtIdx_length 0x5C#8 0x6C#8 0x7C#8 op)

theorem sts (op : DirExtIdx) : Statement (.sts op) := 
  bare (dirExtIdx_length 0x5F#8 0x6F#8 0x7F#8 op)

theorem stx (op : DirExtIdx) : Statement (.stx op) := 
  bare (dirExtIdx_length 0x5E#8 0x6E#8 0x7E#8 op)

theorem sty (op : DirExtIdx) : Statement (.sty op) := 
  bare (dirExtIdx_length 0x5D#8 0x6D#8 0x7D#8 op)

theorem gldaa (op : DirExtIdx) : Statement (.gldaa op) := 
  prefixed (dirExtIdx_length 0x96#8 0xA6#8 0xB6#8 op)

theorem gldab (op : DirExtIdx) : Statement (.gldab op) := 
  prefixed (dirExtIdx_length 0xD6#8 0xE6#8 0xF6#8 op)

theorem gldd (op : DirExtIdx) : Statement (.gldd op) := 
  prefixed (dirExtIdx_length 0xDC#8 0xEC#8 0xFC#8 op)

theorem glds (op : DirExtIdx) : Statement (.glds op) := 
  prefixed (dirExtIdx_length 0xDF#8 0xEF#8 0xFF#8 op)

theorem gldx (op : DirExtIdx) : Statement (.gldx op) := 
  prefixed (dirExtIdx_length 0xDE#8 0xEE#8 0xFE#8 op)

theorem gldy (op : DirExtIdx) : Statement (.gldy op) := 
  prefixed (dirExtIdx_length 0xDD#8 0xED#8 0xFD#8 op)

theorem gstaa (op : DirExtIdx) : Statement (.gstaa op) := 
  prefixed (dirExtIdx_length 0x5A#8 0x6A#8 0x7A#8 op)

theorem gstab (op : DirExtIdx) : Statement (.gstab op) := 
  prefixed (dirExtIdx_length 0x5B#8 0x6B#8 0x7B#8 op)

theorem gstd (op : DirExtIdx) : Statement (.gstd op) := 
  prefixed (dirExtIdx_length 0x5C#8 0x6C#8 0x7C#8 op)

theorem gsts (op : DirExtIdx) : Statement (.gsts op) := 
  prefixed (dirExtIdx_length 0x5F#8 0x6F#8 0x7F#8 op)

theorem gstx (op : DirExtIdx) : Statement (.gstx op) := 
  prefixed (dirExtIdx_length 0x5E#8 0x6E#8 0x7E#8 op)

theorem gsty (op : DirExtIdx) : Statement (.gsty op) := 
  prefixed (dirExtIdx_length 0x5D#8 0x6D#8 0x7D#8 op)

theorem tfr (hi : Bool) (src : XReg) (dst : XReg) : Statement (.tfr hi src dst) := ⟨Nat.le_of_ble_eq_true rfl, Nat.le_of_ble_eq_true rfl⟩

theorem sex (hi : Bool) (src : XReg) (dst : XReg) : Statement (.sex hi src dst) := ⟨Nat.le_of_ble_eq_true rfl, Nat.le_of_ble_eq_true rfl⟩

theorem exg (hi : Bool) (src : XReg) (dst : XReg) : Statement (.exg hi src dst) := ⟨Nat.le_of_ble_eq_true rfl, Nat.le_of_ble_eq_true rfl⟩

theorem movb (m : Move Byte) : Statement (.movb m) := 
  prefixed_move (move_length 0x08#8 (fun k => [k]) m fun _ => by simp)

theorem movw (m : Move Word) : Statement (.movw m) := 
  prefixed_move (move_length 0x00#8 wordBytes m fun _ => by simp [wordBytes])

theorem adca (op : Src8) : Statement (.adca op) := 
  bare (src8_length 0x89#8 0x99#8 0xA9#8 0xB9#8 op)

theorem adcb (op : Src8) : Statement (.adcb op) := 
  bare (src8_length 0xC9#8 0xD9#8 0xE9#8 0xF9#8 op)

theorem adda (op : Src8) : Statement (.adda op) := 
  bare (src8_length 0x8B#8 0x9B#8 0xAB#8 0xBB#8 op)

theorem addb (op : Src8) : Statement (.addb op) := 
  bare (src8_length 0xCB#8 0xDB#8 0xEB#8 0xFB#8 op)

theorem addd (op : Src16) : Statement (.addd op) := 
  bare (src16_length 0xC3#8 0xD3#8 0xE3#8 0xF3#8 op)

theorem addx (op : Src16) : Statement (.addx op) := 
  prefixed (src16_length 0x8B#8 0x9B#8 0xAB#8 0xBB#8 op)

theorem addy (op : Src16) : Statement (.addy op) := 
  prefixed (src16_length 0xCB#8 0xDB#8 0xEB#8 0xFB#8 op)

theorem aded (op : Src16) : Statement (.aded op) := 
  prefixed (src16_length 0xC3#8 0xD3#8 0xE3#8 0xF3#8 op)

theorem adex (op : Src16) : Statement (.adex op) := 
  prefixed (src16_length 0x89#8 0x99#8 0xA9#8 0xB9#8 op)

theorem adey (op : Src16) : Statement (.adey op) := 
  prefixed (src16_length 0xC9#8 0xD9#8 0xE9#8 0xF9#8 op)

theorem sbca (op : Src8) : Statement (.sbca op) := 
  bare (src8_length 0x82#8 0x92#8 0xA2#8 0xB2#8 op)

theorem sbcb (op : Src8) : Statement (.sbcb op) := 
  bare (src8_length 0xC2#8 0xD2#8 0xE2#8 0xF2#8 op)

theorem suba (op : Src8) : Statement (.suba op) := 
  bare (src8_length 0x80#8 0x90#8 0xA0#8 0xB0#8 op)

theorem subb (op : Src8) : Statement (.subb op) := 
  bare (src8_length 0xC0#8 0xD0#8 0xE0#8 0xF0#8 op)

theorem subd (op : Src16) : Statement (.subd op) := 
  bare (src16_length 0x83#8 0x93#8 0xA3#8 0xB3#8 op)

theorem subx (op : Src16) : Statement (.subx op) := 
  prefixed (src16_length 0x80#8 0x90#8 0xA0#8 0xB0#8 op)

theorem suby (op : Src16) : Statement (.suby op) := 
  prefixed (src16_length 0xC0#8 0xD0#8 0xE0#8 0xF0#8 op)

theorem sbed (op : Src16) : Statement (.sbed op) := 
  prefixed (src16_length 0x83#8 0x93#8 0xA3#8 0xB3#8 op)

theorem sbex (op : Src16) : Statement (.sbex op) := 
  prefixed (src16_length 0x82#8 0x92#8 0xA2#8 0xB2#8 op)

theorem sbey (op : Src16) : Statement (.sbey op) := 
  prefixed (src16_length 0xC2#8 0xD2#8 0xE2#8 0xF2#8 op)

theorem dec (op : ExtIdx) : Statement (.dec op) := 
  bare (extIdx_length 0x63#8 0x73#8 op)

theorem decw (op : ExtIdx) : Statement (.decw op) := 
  prefixed (extIdx_length 0x63#8 0x73#8 op)

theorem inc (op : ExtIdx) : Statement (.inc op) := 
  bare (extIdx_length 0x62#8 0x72#8 op)

theorem incw (op : ExtIdx) : Statement (.incw op) := 
  prefixed (extIdx_length 0x62#8 0x72#8 op)

theorem cmpa (op : Src8) : Statement (.cmpa op) := 
  bare (src8_length 0x81#8 0x91#8 0xA1#8 0xB1#8 op)

theorem cmpb (op : Src8) : Statement (.cmpb op) := 
  bare (src8_length 0xC1#8 0xD1#8 0xE1#8 0xF1#8 op)

theorem cpd (op : Src16) : Statement (.cpd op) := 
  bare (src16_length 0x8C#8 0x9C#8 0xAC#8 0xBC#8 op)

theorem cps (op : Src16) : Statement (.cps op) := 
  bare (src16_length 0x8F#8 0x9F#8 0xAF#8 0xBF#8 op)

theorem cpx (op : Src16) : Statement (.cpx op) := 
  bare (src16_length 0x8E#8 0x9E#8 0xAE#8 0xBE#8 op)

theorem cpy (op : Src16) : Statement (.cpy op) := 
  bare (src16_length 0x8D#8 0x9D#8 0xAD#8 0xBD#8 op)

theorem cped (op : Src16) : Statement (.cped op) := 
  prefixed (src16_length 0x8C#8 0x9C#8 0xAC#8 0xBC#8 op)

theorem cpes (op : Src16) : Statement (.cpes op) := 
  prefixed (src16_length 0x8F#8 0x9F#8 0xAF#8 0xBF#8 op)

theorem cpex (op : Src16) : Statement (.cpex op) := 
  prefixed (src16_length 0x8E#8 0x9E#8 0xAE#8 0xBE#8 op)

theorem cpey (op : Src16) : Statement (.cpey op) := 
  prefixed (src16_length 0x8D#8 0x9D#8 0xAD#8 0xBD#8 op)

theorem tst (op : ExtIdx) : Statement (.tst op) := 
  bare (extIdx_length 0xE7#8 0xF7#8 op)

theorem tstw (op : ExtIdx) : Statement (.tstw op) := 
  prefixed (extIdx_length 0xE7#8 0xF7#8 op)

theorem anda (op : Src8) : Statement (.anda op) := 
  bare (src8_length 0x84#8 0x94#8 0xA4#8 0xB4#8 op)

theorem andb (op : Src8) : Statement (.andb op) := 
  bare (src8_length 0xC4#8 0xD4#8 0xE4#8 0xF4#8 op)

theorem andx (op : Src16) : Statement (.andx op) := 
  prefixed (src16_length 0x84#8 0x94#8 0xA4#8 0xB4#8 op)

theorem andy (op : Src16) : Statement (.andy op) := 
  prefixed (src16_length 0xC4#8 0xD4#8 0xE4#8 0xF4#8 op)

theorem eora (op : Src8) : Statement (.eora op) := 
  bare (src8_length 0x88#8 0x98#8 0xA8#8 0xB8#8 op)

theorem eorb (op : Src8) : Statement (.eorb op) := 
  bare (src8_length 0xC8#8 0xD8#8 0xE8#8 0xF8#8 op)

theorem eorx (op : Src16) : Statement (.eorx op) := 
  prefixed (src16_length 0x88#8 0x98#8 0xA8#8 0xB8#8 op)

theorem eory (op : Src16) : Statement (.eory op) := 
  prefixed (src16_length 0xC8#8 0xD8#8 0xE8#8 0xF8#8 op)

theorem oraa (op : Src8) : Statement (.oraa op) := 
  bare (src8_length 0x8A#8 0x9A#8 0xAA#8 0xBA#8 op)

theorem orab (op : Src8) : Statement (.orab op) := 
  bare (src8_length 0xCA#8 0xDA#8 0xEA#8 0xFA#8 op)

theorem orx (op : Src16) : Statement (.orx op) := 
  prefixed (src16_length 0x8A#8 0x9A#8 0xAA#8 0xBA#8 op)

theorem ory (op : Src16) : Statement (.ory op) := 
  prefixed (src16_length 0xCA#8 0xDA#8 0xEA#8 0xFA#8 op)

theorem andcc (mask : Byte) : Statement (.andcc mask) := ⟨Nat.le_of_ble_eq_true rfl, Nat.le_of_ble_eq_true rfl⟩

theorem orcc (mask : Byte) : Statement (.orcc mask) := ⟨Nat.le_of_ble_eq_true rfl, Nat.le_of_ble_eq_true rfl⟩

theorem clr (op : ExtIdx) : Statement (.clr op) := 
  bare (extIdx_length 0x69#8 0x79#8 op)

theorem clrw (op : ExtIdx) : Statement (.clrw op) := 
  prefixed (extIdx_length 0x69#8 0x79#8 op)

theorem com (op : ExtIdx) : Statement (.com op) := 
  bare (extIdx_length 0x61#8 0x71#8 op)

theorem comw (op : ExtIdx) : Statement (.comw op) := 
  prefixed (extIdx_length 0x61#8 0x71#8 op)

theorem neg (op : ExtIdx) : Statement (.neg op) := 
  bare (extIdx_length 0x60#8 0x70#8 op)

theorem negw (op : ExtIdx) : Statement (.negw op) := 
  prefixed (extIdx_length 0x60#8 0x70#8 op)

theorem bclr (op : DirExtIdx) (mask : Byte) : Statement (.bclr op mask) := 
  appended [mask] (dirExtIdx_length 0x4D#8 0x0D#8 0x1D#8 op) (Nat.le_of_ble_eq_true rfl)

theorem bset (op : DirExtIdx) (mask : Byte) : Statement (.bset op mask) := 
  appended [mask] (dirExtIdx_length 0x4C#8 0x0C#8 0x1C#8 op) (Nat.le_of_ble_eq_true rfl)

theorem btas (op : DirExtIdx) (mask : Byte) : Statement (.btas op mask) := 
  prefixed_appended [mask] (dirExtIdx_length 0x35#8 0x37#8 0x36#8 op) (Nat.le_of_ble_eq_true rfl)

theorem bita (op : Src8) : Statement (.bita op) := 
  bare (src8_length 0x85#8 0x95#8 0xA5#8 0xB5#8 op)

theorem bitb (op : Src8) : Statement (.bitb op) := 
  bare (src8_length 0xC5#8 0xD5#8 0xE5#8 0xF5#8 op)

theorem bitx (op : Src16) : Statement (.bitx op) := 
  prefixed (src16_length 0x85#8 0x95#8 0xA5#8 0xB5#8 op)

theorem bity (op : Src16) : Statement (.bity op) := 
  prefixed (src16_length 0xC5#8 0xD5#8 0xE5#8 0xF5#8 op)

theorem asl (op : ExtIdx) : Statement (.asl op) := 
  bare (extIdx_length 0x68#8 0x78#8 op)

theorem aslw (op : ExtIdx) : Statement (.aslw op) := 
  prefixed (extIdx_length 0x68#8 0x78#8 op)

theorem asr (op : ExtIdx) : Statement (.asr op) := 
  bare (extIdx_length 0x67#8 0x77#8 op)

theorem asrw (op : ExtIdx) : Statement (.asrw op) := 
  prefixed (extIdx_length 0x67#8 0x77#8 op)

theorem lsr (op : ExtIdx) : Statement (.lsr op) := 
  bare (extIdx_length 0x64#8 0x74#8 op)

theorem lsrw (op : ExtIdx) : Statement (.lsrw op) := 
  prefixed (extIdx_length 0x64#8 0x74#8 op)

theorem rol (op : ExtIdx) : Statement (.rol op) := 
  bare (extIdx_length 0x65#8 0x75#8 op)

theorem rolw (op : ExtIdx) : Statement (.rolw op) := 
  prefixed (extIdx_length 0x65#8 0x75#8 op)

theorem ror (op : ExtIdx) : Statement (.ror op) := 
  bare (extIdx_length 0x66#8 0x76#8 op)

theorem rorw (op : ExtIdx) : Statement (.rorw op) := 
  prefixed (extIdx_length 0x66#8 0x76#8 op)

theorem maxa (op : Indexed) : Statement (.maxa op) := 
  prefixed_twice (indexed_bound op)

theorem maxm (op : Indexed) : Statement (.maxm op) := 
  prefixed_twice (indexed_bound op)

theorem mina (op : Indexed) : Statement (.mina op) := 
  prefixed_twice (indexed_bound op)

theorem minm (op : Indexed) : Statement (.minm op) := 
  prefixed_twice (indexed_bound op)

theorem emaxd (op : Indexed) : Statement (.emaxd op) := 
  prefixed_twice (indexed_bound op)

theorem emaxm (op : Indexed) : Statement (.emaxm op) := 
  prefixed_twice (indexed_bound op)

theorem emind (op : Indexed) : Statement (.emind op) := 
  prefixed_twice (indexed_bound op)

theorem eminm (op : Indexed) : Statement (.eminm op) := 
  prefixed_twice (indexed_bound op)

theorem emacs (addr : Word) : Statement (.emacs addr) := ⟨Nat.le_of_ble_eq_true rfl, Nat.le_of_ble_eq_true rfl⟩

theorem tbl (op : Indexed) : Statement (.tbl op) := 
  prefixed_twice (indexed_bound op)

theorem etbl (op : Indexed) : Statement (.etbl op) := 
  prefixed_twice (indexed_bound op)

theorem bra (rel : Byte) : Statement (.bra rel) := ⟨Nat.le_of_ble_eq_true rfl, Nat.le_of_ble_eq_true rfl⟩

theorem brn (rel : Byte) : Statement (.brn rel) := ⟨Nat.le_of_ble_eq_true rfl, Nat.le_of_ble_eq_true rfl⟩

theorem bcc (rel : Byte) : Statement (.bcc rel) := ⟨Nat.le_of_ble_eq_true rfl, Nat.le_of_ble_eq_true rfl⟩

theorem bcs (rel : Byte) : Statement (.bcs rel) := ⟨Nat.le_of_ble_eq_true rfl, Nat.le_of_ble_eq_true rfl⟩

theorem beq (rel : Byte) : Statement (.beq rel) := ⟨Nat.le_of_ble_eq_true rfl, Nat.le_of_ble_eq_true rfl⟩

theorem bne (rel : Byte) : Statement (.bne rel) := ⟨Nat.le_of_ble_eq_true rfl, Nat.le_of_ble_eq_true rfl⟩

theorem bmi (rel : Byte) : Statement (.bmi rel) := ⟨Nat.le_of_ble_eq_true rfl, Nat.le_of_ble_eq_true rfl⟩

theorem bpl (rel : Byte) : Statement (.bpl rel) := ⟨Nat.le_of_ble_eq_true rfl, Nat.le_of_ble_eq_true rfl⟩

theorem bvc (rel : Byte) : Statement (.bvc rel) := ⟨Nat.le_of_ble_eq_true rfl, Nat.le_of_ble_eq_true rfl⟩

theorem bvs (rel : Byte) : Statement (.bvs rel) := ⟨Nat.le_of_ble_eq_true rfl, Nat.le_of_ble_eq_true rfl⟩

theorem bhi (rel : Byte) : Statement (.bhi rel) := ⟨Nat.le_of_ble_eq_true rfl, Nat.le_of_ble_eq_true rfl⟩

theorem bhs (rel : Byte) : Statement (.bhs rel) := ⟨Nat.le_of_ble_eq_true rfl, Nat.le_of_ble_eq_true rfl⟩

theorem blo (rel : Byte) : Statement (.blo rel) := ⟨Nat.le_of_ble_eq_true rfl, Nat.le_of_ble_eq_true rfl⟩

theorem bls (rel : Byte) : Statement (.bls rel) := ⟨Nat.le_of_ble_eq_true rfl, Nat.le_of_ble_eq_true rfl⟩

theorem bge (rel : Byte) : Statement (.bge rel) := ⟨Nat.le_of_ble_eq_true rfl, Nat.le_of_ble_eq_true rfl⟩

theorem bgt (rel : Byte) : Statement (.bgt rel) := ⟨Nat.le_of_ble_eq_true rfl, Nat.le_of_ble_eq_true rfl⟩

theorem ble (rel : Byte) : Statement (.ble rel) := ⟨Nat.le_of_ble_eq_true rfl, Nat.le_of_ble_eq_true rfl⟩

theorem blt (rel : Byte) : Statement (.blt rel) := ⟨Nat.le_of_ble_eq_true rfl, Nat.le_of_ble_eq_true rfl⟩

theorem lbra (rel : Word) : Statement (.lbra rel) := ⟨Nat.le_of_ble_eq_true rfl, Nat.le_of_ble_eq_true rfl⟩

theorem lbrn (rel : Word) : Statement (.lbrn rel) := ⟨Nat.le_of_ble_eq_true rfl, Nat.le_of_ble_eq_true rfl⟩

theorem lbcc (rel : Word) : Statement (.lbcc rel) := ⟨Nat.le_of_ble_eq_true rfl, Nat.le_of_ble_eq_true rfl⟩

theorem lbcs (rel : Word) : Statement (.lbcs rel) := ⟨Nat.le_of_ble_eq_true rfl, Nat.le_of_ble_eq_true rfl⟩

theorem lbeq (rel : Word) : Statement (.lbeq rel) := ⟨Nat.le_of_ble_eq_true rfl, Nat.le_of_ble_eq_true rfl⟩

theorem lbne (rel : Word) : Statement (.lbne rel) := ⟨Nat.le_of_ble_eq_true rfl, Nat.le_of_ble_eq_true rfl⟩

theorem lbmi (rel : Word) : Statement (.lbmi rel) := ⟨Nat.le_of_ble_eq_true rfl, Nat.le_of_ble_eq_true rfl⟩

theorem lbpl (rel : Word) : Statement (.lbpl rel) := ⟨Nat.le_of_ble_eq_true rfl, Nat.le_of_ble_eq_true rfl⟩

theorem lbvc (rel : Word) : Statement (.lbvc rel) := ⟨Nat.le_of_ble_eq_true rfl, Nat.le_of_ble_eq_true rfl⟩

theorem lbvs (rel : Word) : Statement (.lbvs rel) := ⟨Nat.le_of_ble_eq_true rfl, Nat.le_of_ble_eq_true rfl⟩

theorem lbhi (rel : Word) : Statement (.lbhi rel) := ⟨Nat.le_of_ble_eq_true rfl, Nat.le_of_ble_eq_true rfl⟩

theorem lbhs (rel : Word) : Statement (.lbhs rel) := ⟨Nat.le_of_ble_eq_true rfl, Nat.le_of_ble_eq_true rfl⟩

theorem lblo (rel : Word) : Statement (.lblo rel) := ⟨Nat.le_of_ble_eq_true rfl, Nat.le_of_ble_eq_true rfl⟩

theorem lbls (rel : Word) : Statement (.lbls rel) := ⟨Nat.le_of_ble_eq_true rfl, Nat.le_of_ble_eq_true rfl⟩

theorem lbge (rel : Word) : Statement (.lbge rel) := ⟨Nat.le_of_ble_eq_true rfl, Nat.le_of_ble_eq_true rfl⟩

theorem lbgt (rel : Word) : Statement (.lbgt rel) := ⟨Nat.le_of_ble_eq_true rfl, Nat.le_of_ble_eq_true rfl⟩

theorem lble (rel : Word) : Statement (.lble rel) := ⟨Nat.le_of_ble_eq_true rfl, Nat.le_of_ble_eq_true rfl⟩

theorem lblt (rel : Word) : Statement (.lblt rel) := ⟨Nat.le_of_ble_eq_true rfl, Nat.le_of_ble_eq_true rfl⟩

theorem brclr (op : DirExtIdx) (mask : Byte) (rel : Byte) : Statement (.brclr op mask rel) := 
  appended [mask, rel] (dirExtIdx_length 0x4F#8 0x0F#8 0x1F#8 op) (Nat.le_of_ble_eq_true rfl)

theorem brset (op : DirExtIdx) (mask : Byte) (rel : Byte) : Statement (.brset op mask rel) := 
  appended [mask, rel] (dirExtIdx_length 0x4E#8 0x0E#8 0x1E#8 op) (Nat.le_of_ble_eq_true rfl)

theorem dbeq (r : LoopReg) (off : BitVec 9) : Statement (.dbeq r off) := ⟨Nat.le_of_ble_eq_true rfl, Nat.le_of_ble_eq_true rfl⟩

theorem dbne (r : LoopReg) (off : BitVec 9) : Statement (.dbne r off) := ⟨Nat.le_of_ble_eq_true rfl, Nat.le_of_ble_eq_true rfl⟩

theorem tbeq (r : LoopReg) (off : BitVec 9) : Statement (.tbeq r off) := ⟨Nat.le_of_ble_eq_true rfl, Nat.le_of_ble_eq_true rfl⟩

theorem tbne (r : LoopReg) (off : BitVec 9) : Statement (.tbne r off) := ⟨Nat.le_of_ble_eq_true rfl, Nat.le_of_ble_eq_true rfl⟩

theorem ibeq (r : LoopReg) (off : BitVec 9) : Statement (.ibeq r off) := ⟨Nat.le_of_ble_eq_true rfl, Nat.le_of_ble_eq_true rfl⟩

theorem ibne (r : LoopReg) (off : BitVec 9) : Statement (.ibne r off) := ⟨Nat.le_of_ble_eq_true rfl, Nat.le_of_ble_eq_true rfl⟩

theorem jmp (op : ExtIdx) : Statement (.jmp op) := 
  bare (extIdx_length 0x05#8 0x06#8 op)

theorem bsr (rel : Byte) : Statement (.bsr rel) := ⟨Nat.le_of_ble_eq_true rfl, Nat.le_of_ble_eq_true rfl⟩

theorem jsr (op : DirExtIdx) : Statement (.jsr op) := 
  bare (dirExtIdx_length 0x17#8 0x15#8 0x16#8 op)

theorem call (op : CallOp) : Statement (.call op) := 
  bare (call_length op)

theorem trap (tn : Byte) : Statement (.trap tn) := ⟨Nat.le_of_ble_eq_true rfl, Nat.le_of_ble_eq_true rfl⟩

theorem tab : Statement .tab := ⟨Nat.le_of_ble_eq_true rfl, Nat.le_of_ble_eq_true rfl⟩

theorem tba : Statement .tba := ⟨Nat.le_of_ble_eq_true rfl, Nat.le_of_ble_eq_true rfl⟩

theorem tap : Statement .tap := ⟨Nat.le_of_ble_eq_true rfl, Nat.le_of_ble_eq_true rfl⟩

theorem tpa : Statement .tpa := ⟨Nat.le_of_ble_eq_true rfl, Nat.le_of_ble_eq_true rfl⟩

theorem tsx : Statement .tsx := ⟨Nat.le_of_ble_eq_true rfl, Nat.le_of_ble_eq_true rfl⟩

theorem tsy : Statement .tsy := ⟨Nat.le_of_ble_eq_true rfl, Nat.le_of_ble_eq_true rfl⟩

theorem txs : Statement .txs := ⟨Nat.le_of_ble_eq_true rfl, Nat.le_of_ble_eq_true rfl⟩

theorem tys : Statement .tys := ⟨Nat.le_of_ble_eq_true rfl, Nat.le_of_ble_eq_true rfl⟩

theorem xgdx : Statement .xgdx := ⟨Nat.le_of_ble_eq_true rfl, Nat.le_of_ble_eq_true rfl⟩

theorem xgdy : Statement .xgdy := ⟨Nat.le_of_ble_eq_true rfl, Nat.le_of_ble_eq_true rfl⟩

theorem aba : Statement .aba := ⟨Nat.le_of_ble_eq_true rfl, Nat.le_of_ble_eq_true rfl⟩

theorem abx : Statement .abx := ⟨Nat.le_of_ble_eq_true rfl, Nat.le_of_ble_eq_true rfl⟩

theorem aby : Statement .aby := ⟨Nat.le_of_ble_eq_true rfl, Nat.le_of_ble_eq_true rfl⟩

theorem sba : Statement .sba := ⟨Nat.le_of_ble_eq_true rfl, Nat.le_of_ble_eq_true rfl⟩

theorem daa : Statement .daa := ⟨Nat.le_of_ble_eq_true rfl, Nat.le_of_ble_eq_true rfl⟩

theorem deca : Statement .deca := ⟨Nat.le_of_ble_eq_true rfl, Nat.le_of_ble_eq_true rfl⟩

theorem decb : Statement .decb := ⟨Nat.le_of_ble_eq_true rfl, Nat.le_of_ble_eq_true rfl⟩

theorem decx : Statement .decx := ⟨Nat.le_of_ble_eq_true rfl, Nat.le_of_ble_eq_true rfl⟩

theorem decy : Statement .decy := ⟨Nat.le_of_ble_eq_true rfl, Nat.le_of_ble_eq_true rfl⟩

theorem des : Statement .des := ⟨Nat.le_of_ble_eq_true rfl, Nat.le_of_ble_eq_true rfl⟩

theorem dex : Statement .dex := ⟨Nat.le_of_ble_eq_true rfl, Nat.le_of_ble_eq_true rfl⟩

theorem dey : Statement .dey := ⟨Nat.le_of_ble_eq_true rfl, Nat.le_of_ble_eq_true rfl⟩

theorem inca : Statement .inca := ⟨Nat.le_of_ble_eq_true rfl, Nat.le_of_ble_eq_true rfl⟩

theorem incb : Statement .incb := ⟨Nat.le_of_ble_eq_true rfl, Nat.le_of_ble_eq_true rfl⟩

theorem incx : Statement .incx := ⟨Nat.le_of_ble_eq_true rfl, Nat.le_of_ble_eq_true rfl⟩

theorem incy : Statement .incy := ⟨Nat.le_of_ble_eq_true rfl, Nat.le_of_ble_eq_true rfl⟩

theorem ins : Statement .ins := ⟨Nat.le_of_ble_eq_true rfl, Nat.le_of_ble_eq_true rfl⟩

theorem inx : Statement .inx := ⟨Nat.le_of_ble_eq_true rfl, Nat.le_of_ble_eq_true rfl⟩

theorem iny : Statement .iny := ⟨Nat.le_of_ble_eq_true rfl, Nat.le_of_ble_eq_true rfl⟩

theorem cba : Statement .cba := ⟨Nat.le_of_ble_eq_true rfl, Nat.le_of_ble_eq_true rfl⟩

theorem tsta : Statement .tsta := ⟨Nat.le_of_ble_eq_true rfl, Nat.le_of_ble_eq_true rfl⟩

theorem tstb : Statement .tstb := ⟨Nat.le_of_ble_eq_true rfl, Nat.le_of_ble_eq_true rfl⟩

theorem tstx : Statement .tstx := ⟨Nat.le_of_ble_eq_true rfl, Nat.le_of_ble_eq_true rfl⟩

theorem tsty : Statement .tsty := ⟨Nat.le_of_ble_eq_true rfl, Nat.le_of_ble_eq_true rfl⟩

theorem clc : Statement .clc := ⟨Nat.le_of_ble_eq_true rfl, Nat.le_of_ble_eq_true rfl⟩

theorem cli : Statement .cli := ⟨Nat.le_of_ble_eq_true rfl, Nat.le_of_ble_eq_true rfl⟩

theorem clv : Statement .clv := ⟨Nat.le_of_ble_eq_true rfl, Nat.le_of_ble_eq_true rfl⟩

theorem sec : Statement .sec := ⟨Nat.le_of_ble_eq_true rfl, Nat.le_of_ble_eq_true rfl⟩

theorem sei : Statement .sei := ⟨Nat.le_of_ble_eq_true rfl, Nat.le_of_ble_eq_true rfl⟩

theorem sev : Statement .sev := ⟨Nat.le_of_ble_eq_true rfl, Nat.le_of_ble_eq_true rfl⟩

theorem clra : Statement .clra := ⟨Nat.le_of_ble_eq_true rfl, Nat.le_of_ble_eq_true rfl⟩

theorem clrb : Statement .clrb := ⟨Nat.le_of_ble_eq_true rfl, Nat.le_of_ble_eq_true rfl⟩

theorem clrx : Statement .clrx := ⟨Nat.le_of_ble_eq_true rfl, Nat.le_of_ble_eq_true rfl⟩

theorem clry : Statement .clry := ⟨Nat.le_of_ble_eq_true rfl, Nat.le_of_ble_eq_true rfl⟩

theorem coma : Statement .coma := ⟨Nat.le_of_ble_eq_true rfl, Nat.le_of_ble_eq_true rfl⟩

theorem comb : Statement .comb := ⟨Nat.le_of_ble_eq_true rfl, Nat.le_of_ble_eq_true rfl⟩

theorem comx : Statement .comx := ⟨Nat.le_of_ble_eq_true rfl, Nat.le_of_ble_eq_true rfl⟩

theorem comy : Statement .comy := ⟨Nat.le_of_ble_eq_true rfl, Nat.le_of_ble_eq_true rfl⟩

theorem nega : Statement .nega := ⟨Nat.le_of_ble_eq_true rfl, Nat.le_of_ble_eq_true rfl⟩

theorem negb : Statement .negb := ⟨Nat.le_of_ble_eq_true rfl, Nat.le_of_ble_eq_true rfl⟩

theorem negx : Statement .negx := ⟨Nat.le_of_ble_eq_true rfl, Nat.le_of_ble_eq_true rfl⟩

theorem negy : Statement .negy := ⟨Nat.le_of_ble_eq_true rfl, Nat.le_of_ble_eq_true rfl⟩

theorem mul : Statement .mul := ⟨Nat.le_of_ble_eq_true rfl, Nat.le_of_ble_eq_true rfl⟩

theorem emul : Statement .emul := ⟨Nat.le_of_ble_eq_true rfl, Nat.le_of_ble_eq_true rfl⟩

theorem emuls : Statement .emuls := ⟨Nat.le_of_ble_eq_true rfl, Nat.le_of_ble_eq_true rfl⟩

theorem ediv : Statement .ediv := ⟨Nat.le_of_ble_eq_true rfl, Nat.le_of_ble_eq_true rfl⟩

theorem edivs : Statement .edivs := ⟨Nat.le_of_ble_eq_true rfl, Nat.le_of_ble_eq_true rfl⟩

theorem fdiv : Statement .fdiv := ⟨Nat.le_of_ble_eq_true rfl, Nat.le_of_ble_eq_true rfl⟩

theorem idiv : Statement .idiv := ⟨Nat.le_of_ble_eq_true rfl, Nat.le_of_ble_eq_true rfl⟩

theorem idivs : Statement .idivs := ⟨Nat.le_of_ble_eq_true rfl, Nat.le_of_ble_eq_true rfl⟩

theorem asla : Statement .asla := ⟨Nat.le_of_ble_eq_true rfl, Nat.le_of_ble_eq_true rfl⟩

theorem aslb : Statement .aslb := ⟨Nat.le_of_ble_eq_true rfl, Nat.le_of_ble_eq_true rfl⟩

theorem asld : Statement .asld := ⟨Nat.le_of_ble_eq_true rfl, Nat.le_of_ble_eq_true rfl⟩

theorem aslx : Statement .aslx := ⟨Nat.le_of_ble_eq_true rfl, Nat.le_of_ble_eq_true rfl⟩

theorem asly : Statement .asly := ⟨Nat.le_of_ble_eq_true rfl, Nat.le_of_ble_eq_true rfl⟩

theorem asra : Statement .asra := ⟨Nat.le_of_ble_eq_true rfl, Nat.le_of_ble_eq_true rfl⟩

theorem asrb : Statement .asrb := ⟨Nat.le_of_ble_eq_true rfl, Nat.le_of_ble_eq_true rfl⟩

theorem asrx : Statement .asrx := ⟨Nat.le_of_ble_eq_true rfl, Nat.le_of_ble_eq_true rfl⟩

theorem asry : Statement .asry := ⟨Nat.le_of_ble_eq_true rfl, Nat.le_of_ble_eq_true rfl⟩

theorem lsra : Statement .lsra := ⟨Nat.le_of_ble_eq_true rfl, Nat.le_of_ble_eq_true rfl⟩

theorem lsrb : Statement .lsrb := ⟨Nat.le_of_ble_eq_true rfl, Nat.le_of_ble_eq_true rfl⟩

theorem lsrd : Statement .lsrd := ⟨Nat.le_of_ble_eq_true rfl, Nat.le_of_ble_eq_true rfl⟩

theorem lsrx : Statement .lsrx := ⟨Nat.le_of_ble_eq_true rfl, Nat.le_of_ble_eq_true rfl⟩

theorem lsry : Statement .lsry := ⟨Nat.le_of_ble_eq_true rfl, Nat.le_of_ble_eq_true rfl⟩

theorem rola : Statement .rola := ⟨Nat.le_of_ble_eq_true rfl, Nat.le_of_ble_eq_true rfl⟩

theorem rolb : Statement .rolb := ⟨Nat.le_of_ble_eq_true rfl, Nat.le_of_ble_eq_true rfl⟩

theorem rolx : Statement .rolx := ⟨Nat.le_of_ble_eq_true rfl, Nat.le_of_ble_eq_true rfl⟩

theorem roly : Statement .roly := ⟨Nat.le_of_ble_eq_true rfl, Nat.le_of_ble_eq_true rfl⟩

theorem rora : Statement .rora := ⟨Nat.le_of_ble_eq_true rfl, Nat.le_of_ble_eq_true rfl⟩

theorem rorb : Statement .rorb := ⟨Nat.le_of_ble_eq_true rfl, Nat.le_of_ble_eq_true rfl⟩

theorem rorx : Statement .rorx := ⟨Nat.le_of_ble_eq_true rfl, Nat.le_of_ble_eq_true rfl⟩

theorem rory : Statement .rory := ⟨Nat.le_of_ble_eq_true rfl, Nat.le_of_ble_eq_true rfl⟩

theorem mem : Statement .mem := ⟨Nat.le_of_ble_eq_true rfl, Nat.le_of_ble_eq_true rfl⟩

theorem rev : Statement .rev := ⟨Nat.le_of_ble_eq_true rfl, Nat.le_of_ble_eq_true rfl⟩

theorem revw : Statement .revw := ⟨Nat.le_of_ble_eq_true rfl, Nat.le_of_ble_eq_true rfl⟩

theorem wav : Statement .wav := ⟨Nat.le_of_ble_eq_true rfl, Nat.le_of_ble_eq_true rfl⟩

theorem wavr : Statement .wavr := ⟨Nat.le_of_ble_eq_true rfl, Nat.le_of_ble_eq_true rfl⟩

theorem rts : Statement .rts := ⟨Nat.le_of_ble_eq_true rfl, Nat.le_of_ble_eq_true rfl⟩

theorem rtc : Statement .rtc := ⟨Nat.le_of_ble_eq_true rfl, Nat.le_of_ble_eq_true rfl⟩

theorem rti : Statement .rti := ⟨Nat.le_of_ble_eq_true rfl, Nat.le_of_ble_eq_true rfl⟩

theorem swi : Statement .swi := ⟨Nat.le_of_ble_eq_true rfl, Nat.le_of_ble_eq_true rfl⟩

theorem sys : Statement .sys := ⟨Nat.le_of_ble_eq_true rfl, Nat.le_of_ble_eq_true rfl⟩

theorem bgnd : Statement .bgnd := ⟨Nat.le_of_ble_eq_true rfl, Nat.le_of_ble_eq_true rfl⟩

theorem psha : Statement .psha := ⟨Nat.le_of_ble_eq_true rfl, Nat.le_of_ble_eq_true rfl⟩

theorem pshb : Statement .pshb := ⟨Nat.le_of_ble_eq_true rfl, Nat.le_of_ble_eq_true rfl⟩

theorem pshc : Statement .pshc := ⟨Nat.le_of_ble_eq_true rfl, Nat.le_of_ble_eq_true rfl⟩

theorem pshd : Statement .pshd := ⟨Nat.le_of_ble_eq_true rfl, Nat.le_of_ble_eq_true rfl⟩

theorem pshx : Statement .pshx := ⟨Nat.le_of_ble_eq_true rfl, Nat.le_of_ble_eq_true rfl⟩

theorem pshy : Statement .pshy := ⟨Nat.le_of_ble_eq_true rfl, Nat.le_of_ble_eq_true rfl⟩

theorem pula : Statement .pula := ⟨Nat.le_of_ble_eq_true rfl, Nat.le_of_ble_eq_true rfl⟩

theorem pulb : Statement .pulb := ⟨Nat.le_of_ble_eq_true rfl, Nat.le_of_ble_eq_true rfl⟩

theorem pulc : Statement .pulc := ⟨Nat.le_of_ble_eq_true rfl, Nat.le_of_ble_eq_true rfl⟩

theorem puld : Statement .puld := ⟨Nat.le_of_ble_eq_true rfl, Nat.le_of_ble_eq_true rfl⟩

theorem pulx : Statement .pulx := ⟨Nat.le_of_ble_eq_true rfl, Nat.le_of_ble_eq_true rfl⟩

theorem puly : Statement .puly := ⟨Nat.le_of_ble_eq_true rfl, Nat.le_of_ble_eq_true rfl⟩

theorem pshcw : Statement .pshcw := ⟨Nat.le_of_ble_eq_true rfl, Nat.le_of_ble_eq_true rfl⟩

theorem pulcw : Statement .pulcw := ⟨Nat.le_of_ble_eq_true rfl, Nat.le_of_ble_eq_true rfl⟩

theorem nop : Statement .nop := ⟨Nat.le_of_ble_eq_true rfl, Nat.le_of_ble_eq_true rfl⟩

theorem wai : Statement .wai := ⟨Nat.le_of_ble_eq_true rfl, Nat.le_of_ble_eq_true rfl⟩

theorem stop : Statement .stop := ⟨Nat.le_of_ble_eq_true rfl, Nat.le_of_ble_eq_true rfl⟩

end Sys2Proof.Laws.LengthBound
end

