-- ==== Sys2Proof/Laws/Step.lean ====
section
/-!
SUPPORT. The step boundary: what a step begins in, what it fetches, and, once for all, what a step can do
(60_exceptions.md R651).
-/

namespace Sys2Proof.Machine

/-! ## What a step begins in -/

@[simp] theorem State.begin_cfg (s : State) : s.begin.cfg = s.cfg := rfl
@[simp] theorem State.begin_a (s : State) : s.begin.a = s.a := rfl
@[simp] theorem State.begin_b (s : State) : s.begin.b = s.b := rfl
@[simp] theorem State.begin_x (s : State) : s.begin.x = s.x := rfl
@[simp] theorem State.begin_y (s : State) : s.begin.y = s.y := rfl
@[simp] theorem State.begin_sp (s : State) : s.begin.sp = s.sp := rfl
@[simp] theorem State.begin_pc (s : State) : s.begin.pc = s.pc := rfl
@[simp] theorem State.begin_ccr (s : State) : s.begin.ccr = s.ccr := rfl
@[simp] theorem State.begin_ccrh (s : State) : s.begin.ccrh = s.ccrh := rfl
@[simp] theorem State.begin_tmp1 (s : State) : s.begin.tmp1 = s.tmp1 := rfl
@[simp] theorem State.begin_tmp2 (s : State) : s.begin.tmp2 = s.tmp2 := rfl
@[simp] theorem State.begin_tmp3 (s : State) : s.begin.tmp3 = s.tmp3 := rfl
@[simp] theorem State.begin_ppage (s : State) : s.begin.ppage = s.ppage := rfl
@[simp] theorem State.begin_gpage (s : State) : s.begin.gpage = s.gpage := rfl
@[simp] theorem State.begin_direct (s : State) : s.begin.direct = s.direct := rfl
@[simp] theorem State.begin_vectorBase (s : State) : s.begin.vectorBase = s.vectorBase := rfl
@[simp] theorem State.begin_run (s : State) : s.begin.run = s.run := rfl
@[simp] theorem State.begin_iDelay (s : State) : s.begin.iDelay = s.iDelay := rfl
@[simp] theorem State.begin_wav (s : State) : s.begin.wav = s.wav := rfl
@[simp] theorem State.begin_mem (s : State) : s.begin.mem = s.mem := rfl
@[simp] theorem State.begin_inputs (s : State) : s.begin.inputs = s.inputs.tail := rfl
@[simp] theorem State.begin_tick (s : State) : s.begin.tick = s.tick + 1 := rfl
@[simp] theorem State.begin_stale (s : State) : s.begin.stale = s.stale := rfl
@[simp] theorem State.begin_pageStored (s : State) : s.begin.pageStored = false := rfl
@[simp] theorem State.begin_rtiFrame (s : State) : s.begin.rtiFrame = s.rtiFrame := rfl

/-- The state at a boundary whose instruction is to be run: the inhibit and the mark of an RTI are over. -/
def State.ready (s : State) : State := (s.begin.setIDelay false).setRtiFrame false

/-- The same state, field by field, with the PC moved. -/
theorem State.ready_setPc (s : State) (p : Word) :
    s.ready.setPc p = { s with
      pc := p, inputs := s.inputs.tail, tick := s.tick + 1, iDelay := false, rtiFrame := false, pageStored := false } := by
  simp only [State.ready, State.begin, State.setIDelay, State.setRtiFrame, State.setPc, State.setInputs, State.setTick,
    State.setPageStored]

@[simp] theorem State.ready_cfg (s : State) : s.ready.cfg = s.cfg := by simp [State.ready]
@[simp] theorem State.ready_pc (s : State) : s.ready.pc = s.pc := by simp [State.ready]
@[simp] theorem State.ready_stale (s : State) : s.ready.stale = s.stale := by simp [State.ready]
@[simp] theorem State.ready_bus (s : State) : s.ready.bus = s.begin.bus := by simp [State.ready]

/-! ## Fetching (R86, R90) -/

/-- The addresses of an instruction at the PC. -/
theorem State.mem_codeAddresses (s : State) {n : Nat} (h : n ≤ 8) (a : Word) :
    a ∈ s.codeAddresses n ↔ ∃ k < n, a = s.pc + BitVec.ofNat 16 k := by
  unfold State.codeAddresses eightFrom
  rw [← List.map_take, List.take_range, Nat.min_eq_left h]
  simp [eq_comm]

/-- The bytes at the PC, as the step reads them. -/
theorem State.fetchBytes_ready (s : State) :
    s.ready.fetchBytes = (List.range 8).map fun k => s.begin.read8 (s.pc + BitVec.ofNat 16 k) := by
  unfold State.fetchBytes eightFrom
  rw [List.map_map]
  simp only [State.ready_pc, Function.comp_def, State.read8_of_bus s.ready_bus]

/-- What the fetch answers: the decoder's refusal, the refusal of a byte stored to, or the instruction with its length. -/
theorem State.fetch_cases (s : State) :
    (∃ e, decode s.cfg.version s.fetchBytes = .error e ∧ s.fetch = .error (DecodeError.refusal e)) ∨
      ∃ i rest, decode s.cfg.version s.fetchBytes = .ok (i, rest) ∧
        ((∃ k < 8 - rest.length, s.pc + BitVec.ofNat 16 k ∈ s.stale) ∧ s.fetch = .error .storedIntoQueue ∨
          (∀ k < 8 - rest.length, s.pc + BitVec.ofNat 16 k ∉ s.stale) ∧ s.fetch = .ok (i, 8 - rest.length)) := by
  unfold State.fetch
  cases hd : decode s.cfg.version s.fetchBytes with
  | error e => exact .inl ⟨e, rfl, rfl⟩
  | ok p =>
    obtain ⟨i, rest⟩ := p
    refine .inr ⟨i, rest, rfl, ?_⟩
    have hm := s.mem_codeAddresses (Nat.sub_le 8 rest.length)
    have ha : ((s.codeAddresses (8 - rest.length)).any fun a => s.stale.contains a) = true ↔
        ∃ k < 8 - rest.length, s.pc + BitVec.ofNat 16 k ∈ s.stale := by
      rw [List.any_eq_true]
      constructor
      · rintro ⟨a, h1, h2⟩
        obtain ⟨k, hk, rfl⟩ := (hm a).mp h1
        exact ⟨k, hk, by simpa using h2⟩
      · rintro ⟨k, hk, h⟩
        exact ⟨_, (hm _).mpr ⟨k, hk, rfl⟩, by simpa using h⟩
    by_cases h : ∃ k < 8 - rest.length, s.pc + BitVec.ofNat 16 k ∈ s.stale
    · exact .inl ⟨h, if_pos (ha.mpr h)⟩
    · exact .inr ⟨fun k hk hs => h ⟨k, hk, hs⟩, if_neg fun e => h (ha.mp e)⟩

/-- An instruction has a byte in the window (R68, R696). -/
theorem State.runsInWindow_iff (s : State) {n : Nat} (h : n ≤ 8) :
    s.runsInWindow n = true ↔
      s.cfg.phys.expanded = true ∧ ∃ k < n, inWindow (s.pc + BitVec.ofNat 16 k) = true := by
  unfold State.runsInWindow
  rw [Bool.and_eq_true, List.any_eq_true]
  constructor
  · rintro ⟨h1, a, ha, hi⟩
    obtain ⟨k, hk, rfl⟩ := (s.mem_codeAddresses h a).mp ha
    exact ⟨h1, k, hk, hi⟩
  · rintro ⟨h1, k, hk, hi⟩
    exact ⟨h1, _, (s.mem_codeAddresses h _).mpr ⟨k, hk, rfl⟩, hi⟩

/-- What is left of an instruction that leads to `t`. -/
theorem State.continued_next (s : State) (n : Nat) (t : State) :
    s.continued n (.next t) =
      if t.pageStored = true ∧ s.runsInWindow n = true then .refused .pageStoredInWindow else .next t := by
  simp only [State.continued, Bool.and_eq_true]

/-! ## The step, case by case -/

/-- A reset comes first. -/
theorem step_reset {s : State} {kind : ResetKind} (h : s.env.reset = some kind) :
    step s = .next (s.begin.resetSequence kind) := by
  simp only [step, State.stepWith, h]

/-- In active background mode. -/
theorem step_bdm {s : State} (h : s.env.reset = none) (hr : s.run = .bdm) :
    step s = .next (if s.env.resume then s.begin.setRun .running else s.begin) := by
  simp only [step, State.stepWith, h, State.begin_run, hr]

/-- Waiting or stopped. -/
theorem step_waiting {s : State} (h : s.env.reset = none) (hr : s.run = .waiting ∨ s.run = .stopped) :
    step s = .next (s.begin.wake s.env) := by
  rcases hr with hr | hr <;> simp only [step, State.stepWith, h, State.begin_run, hr]

/-- A request is entered. -/
theorem step_request {s : State} (h : s.env.reset = none) (hr : s.run = .running) {r : Request}
    (hq : s.begin.recognised s.env = some r) :
    step s = .next (((s.begin.setIDelay false).enterRequest r).setRtiFrame false) := by
  simp only [step, State.stepWith, h, State.begin_run, hr, State.runStep, hq]

/-- A forced instruction runs. -/
theorem step_forced {s : State} (h : s.env.reset = none) (hr : s.run = .running)
    (hq : s.begin.recognised s.env = none) {f : Forced} (hf : s.env.forced = some f) :
    step s = .next (s.ready.force f) := by
  simp only [step, State.stepWith, h, State.begin_run, hr, State.runStep, hq, hf, State.ready]

/-- An instruction runs. -/
theorem step_instruction {s : State} (h : s.env.reset = none) (hr : s.run = .running)
    (hq : s.begin.recognised s.env = none) (hf : s.env.forced = none) : step s = s.ready.runInstruction := by
  simp only [step, State.stepWith, h, State.begin_run, hr, State.runStep, hq, hf, State.ready]

/-- What a step that answers a next state has done: a reset, a wait in background mode, a wake from WAI or STOP, an entry,
a forced instruction, or the instruction decoded at the PC. -/
theorem step_cases {s t : State} (h : step s = .next t) :
    (∃ kind, s.env.reset = some kind ∧ t = s.begin.resetSequence kind) ∨
      s.env.reset = none ∧
        ((s.run = .bdm ∧ t = if s.env.resume then s.begin.setRun .running else s.begin) ∨
          ((s.run = .waiting ∨ s.run = .stopped) ∧ t = s.begin.wake s.env) ∨
          s.run = .running ∧
            ((∃ r, s.begin.recognised s.env = some r ∧
                t = ((s.begin.setIDelay false).enterRequest r).setRtiFrame false) ∨
              s.begin.recognised s.env = none ∧
                ((∃ f, s.env.forced = some f ∧ t = s.ready.force f) ∨
                  s.env.forced = none ∧ ∃ i rest, decode s.cfg.version s.ready.fetchBytes = .ok (i, rest) ∧
                    exec i (s.ready.setPc (s.pc + BitVec.ofNat 16 (8 - rest.length))) = .next t))) := by
  cases h1 : s.env.reset with
  | some kind =>
    rw [step_reset h1] at h
    injection h with h
    exact .inl ⟨kind, rfl, h.symm⟩
  | none =>
    refine .inr ⟨rfl, ?_⟩
    cases h2 : s.run with
    | bdm =>
      rw [step_bdm h1 h2] at h
      injection h with h
      exact .inl ⟨rfl, h.symm⟩
    | waiting =>
      rw [step_waiting h1 (.inl h2)] at h
      injection h with h
      exact .inr (.inl ⟨.inl rfl, h.symm⟩)
    | stopped =>
      rw [step_waiting h1 (.inr h2)] at h
      injection h with h
      exact .inr (.inl ⟨.inr rfl, h.symm⟩)
    | running =>
      refine .inr (.inr ⟨rfl, ?_⟩)
      cases h3 : s.begin.recognised s.env with
      | some r =>
        rw [step_request h1 h2 h3] at h
        injection h with h
        exact .inl ⟨r, rfl, h.symm⟩
      | none =>
        refine .inr ⟨rfl, ?_⟩
        cases h4 : s.env.forced with
        | some f =>
          rw [step_forced h1 h2 h3 h4] at h
          injection h with h
          exact .inl ⟨f, rfl, h.symm⟩
        | none =>
          refine .inr ⟨rfl, ?_⟩
          rw [step_instruction h1 h2 h3 h4, State.runInstruction] at h
          rcases s.ready.fetch_cases with ⟨e, -, hf⟩ | ⟨i, rest, hd, ⟨-, hf⟩ | ⟨-, hf⟩⟩
          · rw [hf] at h
            simp at h
          · rw [hf] at h
            simp at h
          · rw [hf] at h
            refine ⟨i, rest, hd, ?_⟩
            simp only [State.ready_pc] at h
            cases he : exec i (s.ready.setPc (s.pc + BitVec.ofNat 16 (8 - rest.length))) with
            | next u =>
              rw [he, State.continued_next] at h
              split at h
              · cases h
              · exact h
            | fault f => cases f
            | refused r =>
              rw [he] at h
              cases h

end Sys2Proof.Machine
end

