-- ==== Sys2Proof/Tests/Slice0.lean ====
section
/-!
SUPPORT. Tests of the model's own: an ill-formed term for each check, words written out from the encoding lines of
spec/, one step each of a choice of the spec's test vectors, and a witness for every statement that has hypotheses.
-/

namespace Sys2Proof.Machine.Tests

/-- The state a test starts in: a version, the PC, and the bytes of an instruction there; all else as after reset. -/
def code (v : Version) (pc : Word) (bytes : List Byte) : State :=
  (({ State.reset with cfg := { State.reset.cfg with version := v } }).setPc pc).load pc bytes

/-- The state an outcome leads to. -/
def got (r : Result) : State :=
  match r with
  | .next t => t
  | _ => State.reset

/-- The state after one step. -/
def after (s : State) : State := got (step s)

/-- The outcome is a next state. -/
def runs (r : Result) : Bool :=
  match r with
  | .next _ => true
  | _ => false

/-- Why an outcome has no next state. -/
def refusal (r : Result) : Option Refusal :=
  match r with
  | .refused e => some e
  | _ => none

/-- The same state under another memory map. -/
def mapped (p : Phys) (s : State) : State := { s with cfg := { s.cfg with phys := p } }

/-- On the map a model takes when none is supplied, every address is plain memory. -/
theorem plain_of_default {s : State} (h : s.cfg.phys = Phys.plain) (a : Word) (n : Nat) : s.plain a n := by
  intro k _
  refine ⟨⟨(a + BitVec.ofNat 16 k).toNat, ?_, ?_⟩, ?_⟩ <;>
    simp [State.locate, State.locAt, State.localKey, Phys.physical, Phys.areaAt, Phys.writable, h, Phys.plain]

/-! ## WellFormed: a term each check refuses -/

/-- LEA takes no indirect form, and its words with a mnemonic of their own are that mnemonic's (R112, R277, R286). -/
theorem test_wf_lea : (Instr.leax (.indD .y)).wf .cpu12xv0 = false ∧ (Instr.leay (.ind16 .x 0)).wf .cpu12xv0 = false ∧
    (Instr.leas (.indD .sp)).wf .cpu12xv0 = false ∧ (Instr.leas (.off5 .sp 0x1F)).wf .cpu12xv0 = false ∧
    (Instr.leas (.off5 .sp 1)).wf .cpu12xv0 = false ∧ (Instr.leax (.acc .x .b)).wf .cpu12xv0 = false ∧
    (Instr.leay (.acc .y .b)).wf .cpu12xv0 = false := by decide

/-- Bit 3 of a transfer is CPU12X's, and a pair has one mnemonic (R120, R121, R190). -/
theorem test_wf_transfer : (Instr.tfr true .a .b).wf .cpu12v0 = false ∧ (Instr.tfr false .a .ccr).wf .cpu12xv0 = false ∧
    (Instr.tfr false .a .d).wf .cpu12xv0 = false ∧ (Instr.sex false .d .a).wf .cpu12xv0 = false ∧
    (Instr.sex true .a .d).wf .cpu12v1 = false ∧ (Instr.exg false .d .x).wf .cpu12xv0 = false ∧
    (Instr.exg true .a .b).wf .cpu12v1 = false := by decide

/-- Moves have one-byte indexed forms only on CPU12 (R219). -/
theorem test_wf_move : (Instr.movb (.immIdx 0 (.off9 .x 0))).wf .cpu12v0 = false ∧
    (Instr.movw (.extIdx 0 (.indD .x))).wf .cpu12v0 = false ∧ (Instr.movb (.idxExt (.off16 .x 0) 0)).wf .cpu12v1 = false ∧
    (Instr.movw (.idxIdx (.off5 .x 0) (.ind16 .x 0))).wf .cpu12v1 = false ∧
    (Instr.movw (.idxIdx (.off9 .x 0) (.off5 .x 0))).wf .cpu12v1 = false := by decide

/-- ANDCC and ORCC words with a mnemonic of their own (R341 to R347). -/
theorem test_wf_ccr : (Instr.andcc 0xFE).wf .cpu12v0 = false ∧ (Instr.andcc 0xEF).wf .cpu12v0 = false ∧
    (Instr.andcc 0xFD).wf .cpu12v0 = false ∧ (Instr.orcc 0x01).wf .cpu12v0 = false ∧
    (Instr.orcc 0x10).wf .cpu12v0 = false ∧ (Instr.orcc 0x02).wf .cpu12v0 = false := by decide

/-- The bit instructions take no indirect form; TBL and ETBL one-byte forms only (R112). -/
theorem test_wf_forms : (Instr.bclr (.idx (.indD .x)) 1).wf .cpu12xv0 = false ∧
    (Instr.bset (.idx (.ind16 .x 0)) 1).wf .cpu12xv0 = false ∧ (Instr.btas (.idx (.indD .x)) 1).wf .cpu12xv0 = false ∧
    (Instr.brclr (.idx (.indD .x)) 1 0).wf .cpu12xv0 = false ∧ (Instr.brset (.idx (.indD .x)) 1 0).wf .cpu12xv0 = false ∧
    (Instr.tbl (.off9 .x 0)).wf .cpu12xv0 = false ∧ (Instr.etbl (.indD .x)).wf .cpu12xv0 = false := by decide

/-- CALL takes its page from the instruction with a direct form, from memory with an indirect one (R93). -/
theorem test_wf_call : (Instr.call (.idx (.indD .x) 0)).wf .cpu12xv0 = false ∧
    (Instr.call (.ind (.off5 .x 0))).wf .cpu12xv0 = false := by decide

/-- CPU12X instructions on CPU12, second spellings, and an assigned position as a TRAP (R132, R512, R128). -/
theorem test_wf_version : (Instr.gldaa (.dir 0)).wf .cpu12v0 = false ∧ (Instr.addx (.imm 0)).wf .cpu12v1 = false ∧
    (Instr.btas (.dir 0) 1).wf .cpu12v0 = false ∧ Instr.sys.wf .cpu12v0 = false ∧ Instr.pshcw.wf .cpu12v1 = false ∧
    (Instr.bhs 0).wf .cpu12v0 = false ∧ (Instr.blo 0).wf .cpu12v0 = false ∧ (Instr.lbhs 0).wf .cpu12v0 = false ∧
    (Instr.lblo 0).wf .cpu12v0 = false ∧ (Instr.trap 0x3E).wf .cpu12xv0 = false ∧
    (Instr.trap 0x3A).wf .cpu12v1 = false := by decide

/-! ## Decode: words written out from the encoding lines of the rules -/

/-- The bytes decode to the instruction, with none left. -/
def decodes (v : Version) (bytes : List Byte) (i : Instr) : Bool :=
  match decode v bytes with
  | .ok (j, []) => decide (j = i)
  | _ => false

/-- Each list of bytes decodes to its instruction. -/
def decodesAll (v : Version) (l : List (List Byte × Instr)) : Bool := l.all fun p => decodes v p.1 p.2

/-- R545: SYS from CPU12XV1 on; `18 A7` is a position of its own on CPU12XV0 too, where it traps. -/
theorem test_decode_sys : decodesAll .cpu12xv1 [([0x18, 0xA7], .sys), ([0x18, 0x30], .trap 0x30)] = true := by decide

/-- R132, R121: what CPU12X adds is TRAP, or another transfer, on CPU12. -/
theorem test_decode_cpu12 : decodesAll .cpu12v0
    [([0x18, 0xA7], .trap 0xA7), ([0x18, 0x96], .trap 0x96), ([0xB7, 0x4D], .tfr false .d .x), ([0x01], .mem)] = true := by
  decide

/-- R512, R513, R732, R733: the words of BHS, BLO, LBHS, LBLO are those of BCC, BCS, LBCC, LBCS. -/
theorem test_decode_second_spellings : decodesAll .cpu12v0
    [([0x24, 0x10], .bcc 0x10), ([0x25, 0x10], .bcs 0x10), ([0x18, 0x24, 0x12, 0x34], .lbcc 0x1234),
     ([0x18, 0x25, 0x12, 0x34], .lbcs 0x1234)] = true := by decide

/-- The numbering of spec/opcode_table.json: `180C` is MOVB extended to extended, its operands zero (log 33). -/
theorem test_table_word : decodeTableWord 16 0x180C = some (.movb (.extExt 0 0)) ∧
    decodeTableWord 8 0x86 = some (.ldaa (.imm 0)) ∧
    (after (State.reset.withFetchWord 16 0x1806)).pc = 2 := by decide

/-- R125, R126: the last loop postbyte that is an instruction, and the reserved ones next to it. -/
theorem test_loop_postbytes : decodes .cpu12v0 [0x04, 0xBF, 0x80] (.ibne .sp 0x180) = true ∧
    decode .cpu12v0 [0x04, 0xC0, 0] = .error .loopPostbyte ∧ decode .cpu12v0 [0x04, 0x02, 0] = .error .loopPostbyte ∧
    decode .cpu12v0 [0x04, 0x0B, 0] = .error .loopPostbyte := by decide

/-- 40_load_store_transfer_move.md: the encoding lines of the family. -/
theorem test_decode_loads_and_stores : decodesAll .cpu12xv0
    [([0x86, 0xA5], .ldaa (.imm 0xA5)), ([0xD6, 0xA5], .ldab (.mem (.dir 0xA5))),
       ([0xFC, 0x12, 0x34], .ldd (.mem (.ext 0x1234))),
       ([0xEF, 0xE3, 0x00, 0x0A], .lds (.mem (.idx (.ind16 .x 0x000A)))), ([0xDE, 0xA5], .ldx (.mem (.dir 0xA5))),
       ([0xFD, 0x12, 0x34], .ldy (.mem (.ext 0x1234))), ([0x1B, 0xF2, 0x12, 0x34], .leas (.off16 .sp 0x1234)),
       ([0x1A, 0xB1], .leax (.auto .sp true 1)), ([0x19, 0xE9, 0xEC], .leay (.off9 .y 0x1EC)),
       ([0x7A, 0x12, 0x34], .staa (.ext 0x1234)), ([0x6B, 0xFE], .stab (.idx (.acc .pc .d))),
       ([0x7C, 0x12, 0x34], .std (.ext 0x1234)), ([0x6F, 0xE3, 0x00, 0x0A], .sts (.idx (.ind16 .x 0x000A))),
       ([0x7E, 0x12, 0x34], .stx (.ext 0x1234)), ([0x6D, 0xB1], .sty (.idx (.auto .sp true 1))),
       ([0x18, 0xB6, 0x12, 0x34], .gldaa (.ext 0x1234)),
       ([0x18, 0xE6, 0xF2, 0x12, 0x34], .gldab (.idx (.off16 .sp 0x1234))),
       ([0x18, 0xFC, 0x12, 0x34], .gldd (.ext 0x1234)), ([0x18, 0xEF, 0x58], .glds (.idx (.off5 .y 0x18))),
       ([0x18, 0xFE, 0x12, 0x34], .gldx (.ext 0x1234)), ([0x18, 0xED, 0xE9, 0xEC], .gldy (.idx (.off9 .y 0x1EC))),
       ([0x18, 0x7A, 0x12, 0x34], .gstaa (.ext 0x1234)), ([0x18, 0x6B, 0xFF], .gstab (.idx (.indD .pc))),
       ([0x18, 0x7C, 0x12, 0x34], .gstd (.ext 0x1234)), ([0x18, 0x6F, 0xFE], .gsts (.idx (.acc .pc .d))),
       ([0x18, 0x7E, 0x12, 0x34], .gstx (.ext 0x1234)),
       ([0x18, 0x6D, 0xE3, 0x00, 0x0A], .gsty (.idx (.ind16 .x 0x000A)))] = true := by decide

/-- 40_load_store_transfer_move.md: the encoding lines of the family. -/
theorem test_decode_transfers : decodesAll .cpu12xv0
    [([0xB7, 0x45], .tfr false .d .x), ([0xB7, 0x04], .sex false .a .d), ([0xB7, 0x8C], .exg true .a .d),
       ([0x18, 0x0E], .tab), ([0x18, 0x0F], .tba), ([0xB7, 0x02], .tap), ([0xB7, 0x20], .tpa), ([0xB7, 0x75], .tsx),
       ([0xB7, 0x76], .tsy), ([0xB7, 0x57], .txs), ([0xB7, 0x67], .tys), ([0xB7, 0xC5], .xgdx), ([0xB7, 0xC6], .xgdy)] = true := by decide

/-- 40_load_store_transfer_move.md: the encoding lines of the family. -/
theorem test_decode_moves : decodesAll .cpu12xv0
    [([0x18, 0x08, 0xE0, 0x7F, 0xA5], .movb (.immIdx 0xA5 (.off9 .x 0x07F))),
       ([0x18, 0x02, 0xE9, 0xEC, 0xF2, 0x12, 0x34], .movw (.idxIdx (.off9 .y 0x1EC) (.off16 .sp 0x1234)))] = true := by decide

/-- 41_add_sub_bcd_incdec.md: the encoding lines of the family. -/
theorem test_decode_additions : decodesAll .cpu12xv0
    [([0x99, 0xA5], .adca (.mem (.dir 0xA5))), ([0xF9, 0x12, 0x34], .adcb (.mem (.ext 0x1234))),
       ([0xAB, 0x58], .adda (.mem (.idx (.off5 .y 0x18)))), ([0xDB, 0xA5], .addb (.mem (.dir 0xA5))),
       ([0xF3, 0x12, 0x34], .addd (.mem (.ext 0x1234))),
       ([0x18, 0xAB, 0xF2, 0x12, 0x34], .addx (.mem (.idx (.off16 .sp 0x1234)))),
       ([0x18, 0xDB, 0xA5], .addy (.mem (.dir 0xA5))), ([0x18, 0xF3, 0x12, 0x34], .aded (.mem (.ext 0x1234))),
       ([0x18, 0xA9, 0xB1], .adex (.mem (.idx (.auto .sp true 1)))), ([0x18, 0xD9, 0xA5], .adey (.mem (.dir 0xA5))),
       ([0x18, 0x06], .aba), ([0x1A, 0xE5], .abx), ([0x19, 0xED], .aby)] = true := by decide

/-- 41_add_sub_bcd_incdec.md: the encoding lines of the family. -/
theorem test_decode_subtractions : decodesAll .cpu12xv0
    [([0xB2, 0x12, 0x34], .sbca (.mem (.ext 0x1234))),
       ([0xE2, 0xE3, 0x00, 0x0A], .sbcb (.mem (.idx (.ind16 .x 0x000A)))), ([0x90, 0xA5], .suba (.mem (.dir 0xA5))),
       ([0xF0, 0x12, 0x34], .subb (.mem (.ext 0x1234))), ([0xA3, 0xFE], .subd (.mem (.idx (.acc .pc .d)))),
       ([0x18, 0x90, 0xA5], .subx (.mem (.dir 0xA5))), ([0x18, 0xF0, 0x12, 0x34], .suby (.mem (.ext 0x1234))),
       ([0x18, 0xA3, 0xFF], .sbed (.mem (.idx (.indD .pc)))), ([0x18, 0x92, 0xA5], .sbex (.mem (.dir 0xA5))),
       ([0x18, 0xF2, 0x12, 0x34], .sbey (.mem (.ext 0x1234))), ([0x18, 0x16], .sba), ([0x18, 0x07], .daa)] = true := by decide

/-- 41_add_sub_bcd_incdec.md: the encoding lines of the family. -/
theorem test_decode_increments : decodesAll .cpu12xv0
    [([0x63, 0xE9, 0xEC], .dec (.idx (.off9 .y 0x1EC))),
       ([0x18, 0x63, 0xE3, 0x00, 0x0A], .decw (.idx (.ind16 .x 0x000A))),
       ([0x62, 0x58], .inc (.idx (.off5 .y 0x18))), ([0x18, 0x62, 0xFE], .incw (.idx (.acc .pc .d))),
       ([0x43], .deca), ([0x53], .decb), ([0x18, 0x43], .decx), ([0x18, 0x53], .decy), ([0x1B, 0x9F], .des),
       ([0x09], .dex), ([0x03], .dey), ([0x42], .inca), ([0x52], .incb), ([0x18, 0x42], .incx),
       ([0x18, 0x52], .incy), ([0x1B, 0x81], .ins), ([0x08], .inx), ([0x02], .iny)] = true := by decide

/-- 42_compare_logic_clr_com_neg.md: the encoding lines of the family. -/
theorem test_decode_compares : decodesAll .cpu12xv0
    [([0xA1, 0xF2, 0x12, 0x34], .cmpa (.mem (.idx (.off16 .sp 0x1234)))), ([0xD1, 0xA5], .cmpb (.mem (.dir 0xA5))),
       ([0xBC, 0x12, 0x34], .cpd (.mem (.ext 0x1234))), ([0xAF, 0xB1], .cps (.mem (.idx (.auto .sp true 1)))),
       ([0x9E, 0xA5], .cpx (.mem (.dir 0xA5))), ([0xBD, 0x12, 0x34], .cpy (.mem (.ext 0x1234))),
       ([0x18, 0xAC, 0xE3, 0x00, 0x0A], .cped (.mem (.idx (.ind16 .x 0x000A)))),
       ([0x18, 0x9F, 0xA5], .cpes (.mem (.dir 0xA5))), ([0x18, 0xBE, 0x12, 0x34], .cpex (.mem (.ext 0x1234))),
       ([0x18, 0xAD, 0xFE], .cpey (.mem (.idx (.acc .pc .d)))), ([0x18, 0x17], .cba)] = true := by decide

/-- 42_compare_logic_clr_com_neg.md: the encoding lines of the family. -/
theorem test_decode_tests_and_logic : decodesAll .cpu12xv0
    [([0xE7, 0xF2, 0x12, 0x34], .tst (.idx (.off16 .sp 0x1234))), ([0x18, 0xE7, 0xFF], .tstw (.idx (.indD .pc))),
       ([0x94, 0xA5], .anda (.mem (.dir 0xA5))), ([0xF4, 0x12, 0x34], .andb (.mem (.ext 0x1234))),
       ([0x18, 0xA4, 0xE9, 0xEC], .andx (.mem (.idx (.off9 .y 0x1EC)))),
       ([0x18, 0xD4, 0xA5], .andy (.mem (.dir 0xA5))), ([0xB8, 0x12, 0x34], .eora (.mem (.ext 0x1234))),
       ([0xE8, 0x58], .eorb (.mem (.idx (.off5 .y 0x18)))), ([0x18, 0x98, 0xA5], .eorx (.mem (.dir 0xA5))),
       ([0x18, 0xF8, 0x12, 0x34], .eory (.mem (.ext 0x1234))),
       ([0xAA, 0xF2, 0x12, 0x34], .oraa (.mem (.idx (.off16 .sp 0x1234)))), ([0xDA, 0xA5], .orab (.mem (.dir 0xA5))),
       ([0x18, 0xBA, 0x12, 0x34], .orx (.mem (.ext 0x1234))),
       ([0x18, 0xEA, 0xB1], .ory (.mem (.idx (.auto .sp true 1)))), ([0x97], .tsta), ([0xD7], .tstb),
       ([0x18, 0x97], .tstx), ([0x18, 0xD7], .tsty)] = true := by decide

/-- 42_compare_logic_clr_com_neg.md: the encoding lines of the family. -/
theorem test_decode_ccr_instructions : decodesAll .cpu12xv0
    [([0x10, 0xA5], .andcc 0xA5), ([0x14, 0xA5], .orcc 0xA5), ([0x10, 0xFE], .clc), ([0x10, 0xEF], .cli),
       ([0x10, 0xFD], .clv), ([0x14, 0x01], .sec), ([0x14, 0x10], .sei), ([0x14, 0x02], .sev)] = true := by decide

/-- 42_compare_logic_clr_com_neg.md: the encoding lines of the family. -/
theorem test_decode_clear_complement_negate : decodesAll .cpu12xv0
    [([0x69, 0xE3, 0x00, 0x0A], .clr (.idx (.ind16 .x 0x000A))), ([0x18, 0x69, 0x58], .clrw (.idx (.off5 .y 0x18))),
       ([0x61, 0xFE], .com (.idx (.acc .pc .d))), ([0x18, 0x61, 0xF2, 0x12, 0x34], .comw (.idx (.off16 .sp 0x1234))),
       ([0x60, 0xFF], .neg (.idx (.indD .pc))), ([0x18, 0x60, 0xB1], .negw (.idx (.auto .sp true 1))),
       ([0x87], .clra), ([0xC7], .clrb), ([0x18, 0x87], .clrx), ([0x18, 0xC7], .clry), ([0x41], .coma),
       ([0x51], .comb), ([0x18, 0x41], .comx), ([0x18, 0x51], .comy), ([0x40], .nega), ([0x50], .negb),
       ([0x18, 0x40], .negx), ([0x18, 0x50], .negy)] = true := by decide

/-- 44_bit_shift_rotate.md: the encoding lines of the family. -/
theorem test_decode_bits : decodesAll .cpu12xv0
    [([0x1D, 0x12, 0x34, 0x0F], .bclr (.ext 0x1234) 0x0F), ([0x0C, 0x58, 0x0F], .bset (.idx (.off5 .y 0x18)) 0x0F),
       ([0x18, 0x36, 0x12, 0x34, 0x0F], .btas (.ext 0x1234) 0x0F),
       ([0xA5, 0x58], .bita (.mem (.idx (.off5 .y 0x18)))), ([0xD5, 0xA5], .bitb (.mem (.dir 0xA5))),
       ([0x18, 0xB5, 0x12, 0x34], .bitx (.mem (.ext 0x1234))),
       ([0x18, 0xE5, 0xF2, 0x12, 0x34], .bity (.mem (.idx (.off16 .sp 0x1234))))] = true := by decide

/-- 44_bit_shift_rotate.md: the encoding lines of the family. -/
theorem test_decode_shifts : decodesAll .cpu12xv0
    [([0x68, 0xFF], .asl (.idx (.indD .pc))), ([0x18, 0x68, 0xB1], .aslw (.idx (.auto .sp true 1))),
       ([0x67, 0xE9, 0xEC], .asr (.idx (.off9 .y 0x1EC))),
       ([0x18, 0x67, 0xE3, 0x00, 0x0A], .asrw (.idx (.ind16 .x 0x000A))),
       ([0x64, 0x58], .lsr (.idx (.off5 .y 0x18))), ([0x18, 0x64, 0xFE], .lsrw (.idx (.acc .pc .d))),
       ([0x65, 0xF2, 0x12, 0x34], .rol (.idx (.off16 .sp 0x1234))), ([0x18, 0x65, 0xFF], .rolw (.idx (.indD .pc))),
       ([0x66, 0xB1], .ror (.idx (.auto .sp true 1))), ([0x18, 0x66, 0xE9, 0xEC], .rorw (.idx (.off9 .y 0x1EC))),
       ([0x48], .asla), ([0x58], .aslb), ([0x59], .asld), ([0x18, 0x48], .aslx), ([0x18, 0x58], .asly),
       ([0x47], .asra), ([0x57], .asrb), ([0x18, 0x47], .asrx), ([0x18, 0x57], .asry), ([0x44], .lsra),
       ([0x54], .lsrb), ([0x49], .lsrd), ([0x18, 0x44], .lsrx), ([0x18, 0x54], .lsry), ([0x45], .rola),
       ([0x55], .rolb), ([0x18, 0x45], .rolx), ([0x18, 0x55], .roly), ([0x46], .rora), ([0x56], .rorb),
       ([0x18, 0x46], .rorx), ([0x18, 0x56], .rory)] = true := by decide

/-- 45_fuzzy_minmax_mac_table.md: the encoding lines of the family. -/
theorem test_decode_minmax_and_tables : decodesAll .cpu12xv0
    [([0x18, 0x18, 0xE3, 0x00, 0x0A], .maxa (.ind16 .x 0x000A)), ([0x18, 0x1C, 0x58], .maxm (.off5 .y 0x18)),
       ([0x18, 0x19, 0xFE], .mina (.acc .pc .d)), ([0x18, 0x1D, 0xF2, 0x12, 0x34], .minm (.off16 .sp 0x1234)),
       ([0x18, 0x1A, 0xFF], .emaxd (.indD .pc)), ([0x18, 0x1E, 0xB1], .emaxm (.auto .sp true 1)),
       ([0x18, 0x1B, 0xE9, 0xEC], .emind (.off9 .y 0x1EC)),
       ([0x18, 0x1F, 0xE3, 0x00, 0x0A], .eminm (.ind16 .x 0x000A)), ([0x18, 0x12, 0x12, 0x34], .emacs 0x1234),
       ([0x18, 0x3D, 0xFE], .tbl (.acc .pc .d)), ([0x18, 0x3F, 0xB1], .etbl (.auto .sp true 1))] = true := by decide

/-- 46_branch_loop.md: the encoding lines of the family. -/
theorem test_decode_short_branches : decodesAll .cpu12xv0
    [([0x20, 0xFE], .bra 0xFE), ([0x21, 0xFE], .brn 0xFE), ([0x24, 0xFE], .bcc 0xFE), ([0x25, 0xFE], .bcs 0xFE),
       ([0x27, 0xFE], .beq 0xFE), ([0x26, 0xFE], .bne 0xFE), ([0x2B, 0xFE], .bmi 0xFE), ([0x2A, 0xFE], .bpl 0xFE),
       ([0x28, 0xFE], .bvc 0xFE), ([0x29, 0xFE], .bvs 0xFE), ([0x22, 0xFE], .bhi 0xFE), ([0x23, 0xFE], .bls 0xFE),
       ([0x2C, 0xFE], .bge 0xFE), ([0x2E, 0xFE], .bgt 0xFE), ([0x2F, 0xFE], .ble 0xFE), ([0x2D, 0xFE], .blt 0xFE)] = true := by decide

/-- 46_branch_loop.md: the encoding lines of the family. -/
theorem test_decode_long_branches : decodesAll .cpu12xv0
    [([0x18, 0x20, 0xFF, 0x12], .lbra 0xFF12), ([0x18, 0x21, 0xFF, 0x12], .lbrn 0xFF12),
       ([0x18, 0x24, 0xFF, 0x12], .lbcc 0xFF12), ([0x18, 0x25, 0xFF, 0x12], .lbcs 0xFF12),
       ([0x18, 0x27, 0xFF, 0x12], .lbeq 0xFF12), ([0x18, 0x26, 0xFF, 0x12], .lbne 0xFF12),
       ([0x18, 0x2B, 0xFF, 0x12], .lbmi 0xFF12), ([0x18, 0x2A, 0xFF, 0x12], .lbpl 0xFF12),
       ([0x18, 0x28, 0xFF, 0x12], .lbvc 0xFF12), ([0x18, 0x29, 0xFF, 0x12], .lbvs 0xFF12),
       ([0x18, 0x22, 0xFF, 0x12], .lbhi 0xFF12), ([0x18, 0x23, 0xFF, 0x12], .lbls 0xFF12),
       ([0x18, 0x2C, 0xFF, 0x12], .lbge 0xFF12), ([0x18, 0x2E, 0xFF, 0x12], .lbgt 0xFF12),
       ([0x18, 0x2F, 0xFF, 0x12], .lble 0xFF12), ([0x18, 0x2D, 0xFF, 0x12], .lblt 0xFF12)] = true := by decide

/-- 46_branch_loop.md: the encoding lines of the family. -/
theorem test_decode_bit_branches_and_loops : decodesAll .cpu12xv0
    [([0x4F, 0xA5, 0x0F, 0xFE], .brclr (.dir 0xA5) 0x0F 0xFE),
       ([0x1E, 0x12, 0x34, 0x0F, 0xFE], .brset (.ext 0x1234) 0x0F 0xFE), ([0x04, 0x00, 0xFC], .dbeq .a 0x0FC),
       ([0x04, 0x31, 0xFC], .dbne .b 0x1FC), ([0x04, 0x44, 0xFC], .tbeq .d 0x0FC),
       ([0x04, 0x75, 0xFC], .tbne .x 0x1FC), ([0x04, 0x86, 0xFC], .ibeq .y 0x0FC),
       ([0x04, 0xB7, 0xFC], .ibne .sp 0x1FC)] = true := by decide

/-- 47_jump_call_interrupt.md: the encoding lines of the family. -/
theorem test_decode_jumps_and_calls : decodesAll .cpu12xv0
    [([0x06, 0x12, 0x34], .jmp (.ext 0x1234)), ([0x07, 0xFE], .bsr 0xFE), ([0x16, 0x12, 0x34], .jsr (.ext 0x1234)),
       ([0x4B, 0xF3, 0x12, 0x34], .call (.ind (.ind16 .sp 0x1234))), ([0x18, 0x30], .trap 0x30), ([0x3D], .rts),
       ([0x0A], .rtc), ([0x0B], .rti), ([0x3F], .swi), ([0x00], .bgnd)] = true := by decide

/-- 43_mul_div.md: the encoding lines of the family. -/
theorem test_decode_multiply_divide : decodesAll .cpu12xv0
    [([0x12], .mul), ([0x13], .emul), ([0x18, 0x13], .emuls), ([0x11], .ediv), ([0x18, 0x14], .edivs),
       ([0x18, 0x11], .fdiv), ([0x18, 0x10], .idiv), ([0x18, 0x15], .idivs)] = true := by decide

/-- 45_fuzzy_minmax_mac_table.md: the encoding lines of the family. -/
theorem test_decode_fuzzy : decodesAll .cpu12xv0
    [([0x01], .mem), ([0x18, 0x3A], .rev), ([0x18, 0x3B], .revw), ([0x18, 0x3C], .wav), ([0x3C], .wavr)] = true := by decide

/-- 48_stack_index_ccr_misc.md: the encoding lines of the family. -/
theorem test_decode_stack_and_misc : decodesAll .cpu12xv0
    [([0x36], .psha), ([0x37], .pshb), ([0x39], .pshc), ([0x3B], .pshd), ([0x34], .pshx), ([0x35], .pshy),
       ([0x32], .pula), ([0x33], .pulb), ([0x38], .pulc), ([0x3A], .puld), ([0x30], .pulx), ([0x31], .puly),
       ([0x18, 0x39], .pshcw), ([0x18, 0x38], .pulcw), ([0xA7], .nop), ([0x3E], .wai), ([0x18, 0x3E], .stop)] = true := by decide

/-! ## One step each, from 95_test_vectors.md -/

/-- 95_test_vectors.md V1. -/
theorem test_v1_ldd :
    let t := after ((code .cpu12xv2 0x4000 [0xFC, 0xFF, 0xFF]) |>.load 0xFFFF [0x12] |>.load 0x0000 [0x34])
    t.d = 0x1234 := by decide

/-- 95_test_vectors.md V2. -/
theorem test_v2_ldaa :
    let t := after ((code .cpu12xv2 0x4000 [0xA6, 0x01]) |>.setX 0xFFFF |>.load 0x0000 [0xAA])
    t.a = 0xAA := by decide

/-- 95_test_vectors.md V3. -/
theorem test_v3_psha :
    let t := after ((code .cpu12xv2 0x4000 [0x36]) |>.setSp 0x0000 |>.setA 0x5A)
    t.read8 0xFFFF = 0x5A ∧ t.sp = 0xFFFF := by decide

/-- 95_test_vectors.md V9. -/
theorem test_v9_ldaa :
    let t := after ((code .cpu12xv2 0x4000 [0xA6, 0x2F]) |>.setX 0x1000 |>.load 0x0FFF [0x42])
    t.x = 0x0FFF ∧ t.a = 0x42 := by decide

/-- 95_test_vectors.md V11. -/
theorem test_v11_ldaa :
    let t := after ((code .cpu12xv2 0x4000 [0xA6, 0xF1, 0x80]) |>.setSp 0x0900 |>.load 0x0880 [0x05])
    t.a = 0x05 := by decide

/-- 95_test_vectors.md V13. -/
theorem test_v13_ldaa :
    let t := after ((code .cpu12xv1 0x4000 [0x96, 0x10]) |>.setDirect 0x20 |>.load 0x2010 [0x6C])
    t.a = 0x6C := by decide

/-- 95_test_vectors.md V20. -/
theorem test_v20_ldaa :
    let t := after ((code .cpu12xv2 0x4000 [0x86, 0x00]) |>.setCcr (Ccr.ofByte 0xD3))
    t.a = 0x00 ∧ t.ccrByte = 0xD5 ∧ t.ccr.n = false ∧ t.ccr.z = true ∧ t.ccr.v = false := by decide

/-- 95_test_vectors.md V24. -/
theorem test_v24_sts :
    let t := after ((code .cpu12xv2 0x4000 [0x6F, 0x80]) |>.setSp 0x0900)
    t.read8 0x0900 = 0x09 ∧ t.read8 0x0901 = 0x00 := by decide

/-- 95_test_vectors.md V25. -/
theorem test_v25_leax :
    let t := after ((code .cpu12xv2 0x4000 [0x1A, 0x23]) |>.setX 0x1000)
    t.x = 0x1004 := by decide

/-- 95_test_vectors.md V26. -/
theorem test_v26_leax :
    let t := after ((code .cpu12xv2 0x4000 [0x1A, 0x33]) |>.setX 0x1000)
    t.x = 0x1000 := by decide

/-- 95_test_vectors.md V30. -/
theorem test_v30_tfr :
    let t := after ((code .cpu12xv2 0x4000 [0xB7, 0x05]) |>.setA 0x80)
    t.x = 0xFF80 := by decide

/-- 95_test_vectors.md V34. -/
theorem test_v34_exg :
    let t := after ((code .cpu12xv2 0x4000 [0xB7, 0x84]) |>.setA 0x12 |>.setB 0x34)
    t.a = 0x00 ∧ t.b = 0x12 := by decide

/-- 95_test_vectors.md V35. -/
theorem test_v35_exg :
    let t := after ((code .cpu12xv2 0x4000 [0xB7, 0xC1]) |>.setA 0x12 |>.setB 0x34)
    t.a = 0xFF ∧ t.b = 0x34 := by decide

/-- 95_test_vectors.md V38. -/
theorem test_v38_exg :
    let t := after ((code .cpu12xv2 0x4000 [0xB7, 0xD1]) |>.setB 0x12 |>.setX 0xABCD)
    t.b = 0xCD ∧ t.x = 0xFF12 := by decide

/-- 95_test_vectors.md V40. -/
theorem test_v40_tap :
    let t := after ((code .cpu12xv2 0x4000 [0xB7, 0x02]) |>.setA 0xFF |>.setCcr (Ccr.ofByte 0x00))
    t.ccrByte = 0xBF := by decide

/-- 95_test_vectors.md V42. -/
theorem test_v42_tfr_high :
    let t := after ((code .cpu12xv1 0x4000 [0xB7, 0x0D]) |>.setA 0x12 |>.setX 0xABCD)
    t.x = 0x12CD := by decide

/-- 95_test_vectors.md V44. -/
theorem test_v44_tfr_ccrw :
    let t := after ((code .cpu12xv2 0x4000 [0xB7, 0x4A]) |>.setD 0x8500 |>.setCcr (Ccr.ofByte 0xD0) |>.setCcrh { u := false, ipl := 0 })
    t.ccrh.u = true ∧ t.ccrh.ipl = 0x5 ∧ t.ccrByte = 0x00 := by decide

/-- 95_test_vectors.md V47. -/
theorem test_v47_movb :
    let t := after ((code .cpu12xv2 0x4000 [0x18, 0x0A, 0x30, 0x70]) |>.setX 0x1000 |>.setY 0x2000 |>.load 0x1000 [0x5A])
    t.read8 0x2000 = 0x5A ∧ t.x = 0x1001 ∧ t.y = 0x2001 := by decide

/-- 95_test_vectors.md V50. -/
theorem test_v50_gldaa :
    let t := after ((code .cpu12xv1 0x4000 [0x18, 0xB6, 0x34, 0x56]) |>.setGpage 0x12 |>.setCcr (Ccr.ofByte 0xD0) |> fun s => s.setMem (s.mem.set (globalKey 0x12 0x3456) 0xC3))
    t.a = 0xC3 ∧ t.ccrByte = 0xD8 := by decide

/-- 95_test_vectors.md V60. -/
theorem test_v60_adda :
    let t := after ((code .cpu12xv2 0x4000 [0x8B, 0x01]) |>.setA 0x7F)
    t.ccr.h = true ∧ t.ccr.n = true ∧ t.ccr.z = false ∧ t.ccr.v = true ∧ t.ccr.c = false ∧ t.a = 0x80 := by decide

/-- 95_test_vectors.md V64. -/
theorem test_v64_aba :
    let t := after ((code .cpu12xv2 0x4000 [0x18, 0x06]) |>.setA 0x38 |>.setB 0x49)
    t.ccr.h = true ∧ t.ccr.n = true ∧ t.ccr.z = false ∧ t.ccr.v = true ∧ t.ccr.c = false ∧ t.a = 0x81 := by decide

/-- 95_test_vectors.md V66. -/
theorem test_v66_addd :
    let t := after ((code .cpu12xv2 0x4000 [0xC3, 0x00, 0x01]) |>.setD 0x7FFF |>.flags (fun f => { f with h := true }))
    t.ccr.n = true ∧ t.ccr.z = false ∧ t.ccr.v = true ∧ t.ccr.c = false ∧ t.d = 0x8000 := by decide

/-- 95_test_vectors.md V69. -/
theorem test_v69_suba :
    let t := after ((code .cpu12xv2 0x4000 [0x80, 0x01]) |>.setA 0x00)
    t.ccr.n = true ∧ t.ccr.z = false ∧ t.ccr.v = false ∧ t.ccr.c = true ∧ t.a = 0xFF := by decide

/-- 95_test_vectors.md V72. -/
theorem test_v72_sbca :
    let t := after ((code .cpu12xv2 0x4000 [0x82, 0x00]) |>.setA 0x00 |>.flags (fun f => { f with c := true }))
    t.ccr.n = true ∧ t.ccr.z = false ∧ t.ccr.v = false ∧ t.ccr.c = true ∧ t.a = 0xFF := by decide

/-- 95_test_vectors.md V78. -/
theorem test_v78_adey :
    let t := after ((code .cpu12xv1 0x4000 [0x18, 0xC9, 0x00, 0x00]) |>.setY 0x0000 |>.flags (fun f => { f with c := false }) |>.flags (fun f => { f with z := false }))
    t.ccr.n = false ∧ t.ccr.v = false ∧ t.ccr.c = false ∧ t.y = 0x0000 := by decide

/-- 95_test_vectors.md V79. -/
theorem test_v79_deca :
    let t := after ((code .cpu12xv2 0x4000 [0x43]) |>.setA 0x00 |>.flags (fun f => { f with c := false }))
    t.ccr.n = true ∧ t.ccr.z = false ∧ t.ccr.v = false ∧ t.a = 0xFF := by decide

/-- 95_test_vectors.md V85. -/
theorem test_v85_des :
    let t := after ((code .cpu12xv2 0x4000 [0x1B, 0x9F]) |>.setSp 0x0000 |>.setCcr (Ccr.ofByte 0xD0))
    t.sp = 0xFFFF := by decide

/-- 95_test_vectors.md V88. -/
theorem test_v88_incw :
    let t := after ((code .cpu12xv1 0x4000 [0x18, 0x72, 0x10, 0x00]) |>.load 0x1000 [0x7F, 0xFF])
    t.ccr.n = true ∧ t.ccr.z = false ∧ t.ccr.v = true := by decide

/-- 95_test_vectors.md V103. -/
theorem test_v103_cpd :
    let t := after ((code .cpu12xv2 0x4000 [0x8C, 0x00, 0x02]) |>.setD 0x0001)
    t.ccr.n = true ∧ t.ccr.z = false ∧ t.ccr.v = false ∧ t.ccr.c = true := by decide

/-- 95_test_vectors.md V107. -/
theorem test_v107_tsta :
    let t := after ((code .cpu12xv2 0x4000 [0x97]) |>.setA 0x80 |>.setCcr (Ccr.ofByte 0xD3))
    t.ccr.n = true ∧ t.ccr.z = false ∧ t.ccr.v = false ∧ t.ccr.c = false ∧ t.ccrByte = 0xD8 := by decide

/-- 95_test_vectors.md V109. -/
theorem test_v109_anda :
    let t := after ((code .cpu12xv2 0x4000 [0x84, 0x0F]) |>.setA 0xF0 |>.setCcr (Ccr.ofByte 0xD1))
    t.a = 0x00 ∧ t.ccrByte = 0xD5 := by decide

/-- 95_test_vectors.md V114. -/
theorem test_v114_orcc :
    let t := after ((code .cpu12xv2 0x4000 [0x14, 0x40]) |>.setCcr (Ccr.ofByte 0x80))
    t.ccrByte = 0x80 := by decide

/-- 95_test_vectors.md V117. -/
theorem test_v117_andcc_user :
    let t := after ((code .cpu12xv2 0x4000 [0x10, 0x00]) |>.setCcrh { u := true, ipl := 0 } |>.setCcr (Ccr.ofByte 0xFF))
    t.ccrByte = 0xD0 := by decide

/-- 95_test_vectors.md V119. -/
theorem test_v119_clr :
    let t := after ((code .cpu12xv2 0x4000 [0x79, 0x10, 0x00]) |>.setCcr (Ccr.ofByte 0xDB) |>.load 0x1000 [0xFF])
    t.read8 0x1000 = 0x00 ∧ t.ccr.n = false ∧ t.ccr.z = true ∧ t.ccr.v = false ∧ t.ccr.c = false ∧
    t.ccrByte = 0xD4 := by decide

/-- 95_test_vectors.md V122. -/
theorem test_v122_coma :
    let t := after ((code .cpu12xv2 0x4000 [0x41]) |>.setA 0x00)
    t.ccr.n = true ∧ t.ccr.z = false ∧ t.ccr.v = false ∧ t.ccr.c = true ∧ t.a = 0xFF := by decide

/-- 95_test_vectors.md V123. -/
theorem test_v123_nega :
    let t := after ((code .cpu12xv2 0x4000 [0x40]) |>.setA 0x80)
    t.ccr.n = true ∧ t.ccr.z = false ∧ t.ccr.v = true ∧ t.ccr.c = true ∧ t.a = 0x80 := by decide

/-- 95_test_vectors.md V140. -/
theorem test_v140_mul :
    let t := after ((code .cpu12xv2 0x4000 [0x12]) |>.setA 0xFF |>.setB 0xFF)
    t.d = 0xFE01 ∧ t.ccr.c = false := by decide

/-- 95_test_vectors.md V142. -/
theorem test_v142_emul :
    let t := after ((code .cpu12xv2 0x4000 [0x13]) |>.setD 0xFFFF |>.setY 0xFFFF)
    t.ccr.n = true ∧ t.ccr.z = false ∧ t.ccr.c = false ∧ t.y = 0xFFFE ∧ t.d = 0x0001 := by decide

/-- 95_test_vectors.md V145. -/
theorem test_v145_ediv :
    let t := after ((code .cpu12xv2 0x4000 [0x11]) |>.setY 0x0001 |>.setD 0x0000 |>.setX 0x0002)
    t.ccr.n = true ∧ t.ccr.z = false ∧ t.ccr.v = false ∧ t.ccr.c = false ∧ t.y = 0x8000 ∧ t.d = 0x0000 := by decide

/-- 95_test_vectors.md V146. -/
theorem test_v146_ediv :
    let t := after ((code .cpu12xv2 0x4000 [0x11]) |>.setY 0x0002 |>.setD 0x0000 |>.setX 0x0002)
    t.ccr.v = true ∧ t.ccr.c = false := by decide

/-- 95_test_vectors.md V148. -/
theorem test_v148_edivs :
    let t := after ((code .cpu12xv2 0x4000 [0x18, 0x14]) |>.setY 0xFFFF |>.setD 0xFFF9 |>.setX 0x0002)
    t.ccr.n = true ∧ t.ccr.z = false ∧ t.ccr.v = false ∧ t.ccr.c = false ∧ t.y = 0xFFFD ∧ t.d = 0xFFFF := by decide

/-- 95_test_vectors.md V149. -/
theorem test_v149_edivs :
    let t := after ((code .cpu12xv2 0x4000 [0x18, 0x14]) |>.setY 0x0000 |>.setD 0x8000 |>.setX 0x0001)
    t.ccr.v = true ∧ t.ccr.c = false := by decide

/-- 95_test_vectors.md V150. -/
theorem test_v150_fdiv :
    let t := after ((code .cpu12xv2 0x4000 [0x18, 0x11]) |>.setD 0x0001 |>.setX 0x0003)
    t.ccr.z = false ∧ t.ccr.v = false ∧ t.ccr.c = false ∧ t.x = 0x5555 ∧ t.d = 0x0001 := by decide

/-- 95_test_vectors.md V151. -/
theorem test_v151_fdiv :
    let t := after ((code .cpu12xv2 0x4000 [0x18, 0x11]) |>.setD 0x0003 |>.setX 0x0003)
    t.ccr.v = true ∧ t.ccr.c = false ∧ t.ccr.z = false ∧ t.x = 0xFFFF := by decide

/-- 95_test_vectors.md V153. -/
theorem test_v153_idiv :
    let t := after ((code .cpu12xv2 0x4000 [0x18, 0x10]) |>.setD 0x0064 |>.setX 0x0007)
    t.ccr.z = false ∧ t.ccr.v = false ∧ t.ccr.c = false ∧ t.x = 0x000E ∧ t.d = 0x0002 := by decide

/-- 95_test_vectors.md V154. -/
theorem test_v154_idiv :
    let t := after ((code .cpu12xv2 0x4000 [0x18, 0x10]) |>.setD 0x1234 |>.setX 0x0000)
    t.ccr.c = true ∧ t.ccr.v = false ∧ t.ccr.z = false ∧ t.x = 0xFFFF := by decide

/-- 95_test_vectors.md V155. -/
theorem test_v155_idivs :
    let t := after ((code .cpu12xv2 0x4000 [0x18, 0x15]) |>.setD 0x0007 |>.setX 0xFFFE)
    t.ccr.n = true ∧ t.ccr.z = false ∧ t.ccr.v = false ∧ t.ccr.c = false ∧ t.x = 0xFFFD ∧ t.d = 0x0001 := by decide

/-- 95_test_vectors.md V156. -/
theorem test_v156_idivs :
    let t := after ((code .cpu12xv2 0x4000 [0x18, 0x15]) |>.setD 0x8000 |>.setX 0xFFFF)
    t.ccr.v = true ∧ t.ccr.c = false := by decide

/-- 95_test_vectors.md V171. -/
theorem test_v171_bset :
    let t := after ((code .cpu12xv2 0x4000 [0x1C, 0x10, 0x00, 0x80]) |>.load 0x1000 [0x01])
    t.read8 0x1000 = 0x81 ∧ t.ccr.n = true ∧ t.ccr.z = false ∧ t.ccr.v = false := by decide

/-- 95_test_vectors.md V174. -/
theorem test_v174_btas :
    let t := after ((code .cpu12xv1 0x4000 [0x18, 0x35, 0x20, 0x81]) |>.load 0x0020 [0x00])
    t.read8 0x0020 = 0x81 ∧ t.ccr.n = false ∧ t.ccr.z = true ∧ t.ccr.v = false := by decide

/-- 95_test_vectors.md V176. -/
theorem test_v176_asla :
    let t := after ((code .cpu12xv2 0x4000 [0x48]) |>.setA 0x81)
    t.ccr.n = false ∧ t.ccr.z = false ∧ t.ccr.v = true ∧ t.ccr.c = true ∧ t.a = 0x02 := by decide

/-- 95_test_vectors.md V179. -/
theorem test_v179_asra :
    let t := after ((code .cpu12xv2 0x4000 [0x47]) |>.setA 0x81)
    t.ccr.n = true ∧ t.ccr.z = false ∧ t.ccr.v = false ∧ t.ccr.c = true ∧ t.a = 0xC0 := by decide

/-- 95_test_vectors.md V184. -/
theorem test_v184_rola :
    let t := after ((code .cpu12xv2 0x4000 [0x45]) |>.setA 0x00 |>.flags (fun f => { f with c := true }))
    t.ccr.n = false ∧ t.ccr.z = false ∧ t.ccr.v = false ∧ t.ccr.c = false ∧ t.a = 0x01 := by decide

/-- 95_test_vectors.md V189. -/
theorem test_v189_rorw :
    let t := after ((code .cpu12xv1 0x4000 [0x18, 0x76, 0x10, 0x00]) |>.flags (fun f => { f with c := true }) |>.load 0x1000 [0x00, 0x01])
    t.ccr.n = true ∧ t.ccr.z = false ∧ t.ccr.v = false ∧ t.ccr.c = true := by decide

/-- 95_test_vectors.md V200. -/
theorem test_v200_mem :
    let t := after ((code .cpu12v0 0x4000 [0x01]) |>.setA 0x50 |>.setX 0x2000 |>.setY 0x1000 |>.load 0x2000 [0x40, 0xC0, 0x08, 0x08])
    t.read8 0x1000 = 0x80 ∧ t.x = 0x2004 ∧ t.y = 0x1001 := by decide

/-- 95_test_vectors.md V209. -/
theorem test_v209_maxa :
    let t := after ((code .cpu12xv2 0x4000 [0x18, 0x18, 0x00]) |>.setX 0x1000 |>.setA 0x40 |>.load 0x1000 [0x80])
    t.ccr.n = true ∧ t.ccr.z = false ∧ t.ccr.v = true ∧ t.ccr.c = true ∧ t.a = 0x80 := by decide

/-- 95_test_vectors.md V212. -/
theorem test_v212_minm :
    let t := after ((code .cpu12xv2 0x4000 [0x18, 0x1D, 0x00]) |>.setX 0x1000 |>.setA 0x90 |>.load 0x1000 [0x20])
    t.read8 0x1000 = 0x20 := by decide

/-- 95_test_vectors.md V214. -/
theorem test_v214_emind :
    let t := after ((code .cpu12xv2 0x4000 [0x18, 0x1B, 0x31]) |>.setD 0x1234 |>.setX 0x1000 |>.load 0x1000 [0x80, 0x00])
    t.ccr.n = true ∧ t.ccr.z = false ∧ t.ccr.v = true ∧ t.ccr.c = true ∧ t.d = 0x1234 ∧ t.x = 0x1002 := by decide

/-- 95_test_vectors.md V215. -/
theorem test_v215_emacs :
    let t := after ((code .cpu12xv2 0x4000 [0x18, 0x12, 0x30, 0x00]) |>.setX 0x1000 |>.setY 0x1002 |>.load 0x1000 [0x00, 0x02, 0xFF, 0xFF] |>.load 0x3000 [0x00, 0x00, 0x00, 0x01])
    t.read8 0x3000 = 0xFF ∧ t.read8 0x3001 = 0xFF ∧ t.read8 0x3002 = 0xFF ∧ t.read8 0x3003 = 0xFF ∧
    t.ccr.n = true ∧ t.ccr.z = false ∧ t.ccr.v = false ∧ t.ccr.c = false := by decide

/-- 95_test_vectors.md V217. -/
theorem test_v217_tbl :
    let t := after ((code .cpu12xv2 0x4000 [0x18, 0x3D, 0x00]) |>.setX 0x1000 |>.setB 0x80 |>.load 0x1000 [0x10, 0x20])
    t.ccr.n = false ∧ t.ccr.z = false ∧ t.ccr.c = false ∧ t.a = 0x18 := by decide

/-- 95_test_vectors.md V219. -/
theorem test_v219_etbl :
    let t := after ((code .cpu12xv2 0x4000 [0x18, 0x3F, 0x00]) |>.setX 0x1000 |>.setB 0x40 |>.load 0x1000 [0x10, 0x00, 0x20, 0x00])
    t.ccr.n = false ∧ t.ccr.z = false ∧ t.ccr.c = false ∧ t.d = 0x1400 := by decide

/-- 95_test_vectors.md V230. -/
theorem test_v230_bra :
    let t := after ((code .cpu12xv2 0x0000 [0x20, 0x80]))
    t.pc = 0xFF82 := by decide

/-- 95_test_vectors.md V235. -/
theorem test_v235_lbeq :
    let t := after ((code .cpu12xv2 0x1000 [0x18, 0x27, 0x00, 0x10]) |>.flags (fun f => { f with z := false }))
    t.pc = 0x1004 := by decide

/-- 95_test_vectors.md V236. -/
theorem test_v236_brclr :
    let t := after ((code .cpu12xv2 0x4000 [0x4F, 0x20, 0x81, 0x05]) |>.load 0x0020 [0x7E])
    t.pc = 0x4009 := by decide

/-- 95_test_vectors.md V242. -/
theorem test_v242_dbne :
    let t := after ((code .cpu12xv2 0x4000 [0x04, 0x31, 0xFD]) |>.setB 0x00)
    t.b = 0xFF ∧ t.pc = 0x4000 := by decide

/-- 95_test_vectors.md V247. -/
theorem test_v247_tbne :
    let t := after ((code .cpu12xv2 0x4000 [0x04, 0x70, 0x10]) |>.setA 0x01)
    t.pc = 0x3F13 := by decide

/-- 95_test_vectors.md V261. -/
theorem test_v261_jmp :
    let t := after ((code .cpu12xv2 0x4000 [0x05, 0xE7]) |>.setX 0x2000 |>.setD 0x0004 |>.load 0x2004 [0xC1, 0x00])
    t.pc = 0xC100 := by decide

/-- 95_test_vectors.md V263. -/
theorem test_v263_bsr :
    let t := after ((code .cpu12xv2 0xC000 [0x07, 0x10]) |>.setSp 0x0900)
    t.read8 0x08FE = 0xC0 ∧ t.read8 0x08FF = 0x02 ∧ t.sp = 0x08FE ∧ t.pc = 0xC012 := by decide

/-- 95_test_vectors.md V266. -/
theorem test_v266_jsr :
    let t := after ((code .cpu12xv2 0xC000 [0x15, 0xAE]) |>.setSp 0x0900)
    t.read8 0x08FC = 0xC0 ∧ t.read8 0x08FD = 0x02 ∧ t.sp = 0x08FC ∧ t.pc = 0x08FE := by decide

/-- 95_test_vectors.md V268. -/
theorem test_v268_call :
    let t := after ((code .cpu12xv2 0xC000 [0x4A, 0x80, 0x00, 0x05]) |>.setSp 0x0900 |>.setPpage 0x02)
    t.read8 0x08FE = 0xC0 ∧ t.read8 0x08FF = 0x04 ∧ t.read8 0x08FD = 0x02 ∧ t.sp = 0x08FD ∧ t.ppage = 0x05 ∧
    t.pc = 0x8000 := by decide

/-- 95_test_vectors.md V270. -/
theorem test_v270_rtc :
    let t := after ((code .cpu12xv2 0x4000 [0x0A]) |>.setSp 0x08FD |>.load 0x08FD [0x02, 0xC0, 0x04])
    t.ppage = 0x02 ∧ t.pc = 0xC004 ∧ t.sp = 0x0900 := by decide

/-- 95_test_vectors.md V272. -/
theorem test_v272_swi_cpu12x :
    let t := after ((code .cpu12xv1 0xC000 [0x3F]) |>.setA 0x11 |>.setB 0x22 |>.setX 0x3344 |>.setY 0x5566 |>.setSp 0x0A00 |>.setCcr (Ccr.ofByte 0xC0) |>.setCcrh { u := false, ipl := 3 } |>.load 0xFFF6 [0xE0, 0x00])
    t.read8 0x09F6 = 0x03 ∧ t.sp = 0x09F6 := by decide

/-- 95_test_vectors.md V275. -/
theorem test_v275_trap :
    let t := after ((code .cpu12v1 0xC000 [0x18, 0x30]) |>.setA 0x11 |>.setB 0x22 |>.setX 0x3344 |>.setY 0x5566 |>.setSp 0x0A00 |>.setCcr (Ccr.ofByte 0xC0) |>.load 0xFFF6 [0xE0, 0x00, 0xE1, 0x00])
    t.sp = 0x09F7 ∧ t.ccrByte = 0xD0 ∧ t.pc = 0xE100 := by decide

/-- 95_test_vectors.md V277. -/
theorem test_v277_trap_xv0 :
    let t := after ((code .cpu12xv0 0x4000 [0x18, 0xA7]) |>.load 0xFFF8 [0xE1, 0x00])
    t.pc = 0xE100 := by decide

/-- 95_test_vectors.md V297. -/
theorem test_v297_pulcw :
    let t := after ((code .cpu12xv2 0x4000 [0x18, 0x38]) |>.setSp 0x08FE |>.setCcr (Ccr.ofByte 0xD0) |>.setCcrh { u := false, ipl := 0 } |>.load 0x08FE [0x85, 0x00])
    t.ccrh.u = true ∧ t.ccrh.ipl = 0x5 ∧ t.ccrByte = 0x00 ∧ t.sp = 0x0900 := by decide

/-- 95_test_vectors.md V298. -/
theorem test_v298_pulcw_user :
    let t := after ((code .cpu12xv2 0x4000 [0x18, 0x38]) |>.setCcr (Ccr.ofByte 0x10) |>.setCcrh { u := true, ipl := 3 })
    t.ccrhByte = 0x83 ∧ t.ccrByte = 0x10 := by decide

/-- 95_test_vectors.md V301. -/
theorem test_v301_wai :
    let t := after ((code .cpu12v1 0xC00A [0x3E]) |>.setA 0x11 |>.setB 0x22 |>.setX 0x3344 |>.setY 0x5566 |>.setSp 0x0A00 |>.setCcr (Ccr.ofByte 0xC4))
    t.ccrByte = 0xC4 ∧ t.sp = 0x09F7 := by decide

/-! ## Witnesses: a state and operands that meet all hypotheses of a statement -/

/-- A state with room for a stack and code, every mask and flag clear. -/
def open_ (v : Version) : State :=
  ((code v 0x4000 [0xA7]).setSp 0x3000).setCcr (Ccr.ofByte 0)

/-- The same with one boundary's inputs. -/
def withEnv (v : Version) (env : Env) : State := (open_ v).setInputs [env]

theorem witness_DecodeOfEncode : Instr.mem.wf .cpu12v0 = true ∧ Instr.sys.wf .cpu12xv2 = true ∧
    (Instr.trap 0xFF).wf .cpu12v1 = true ∧ (Instr.trap 0x34).wf .cpu12xv0 = true ∧
    (Instr.movw (.idxIdx (.off16 .x 0xFFFF) (.ind16 .pc 0))).wf .cpu12xv1 = true := by decide

theorem witness_DecodedIsWellFormed : decode .cpu12v0 [0xA7, 1] = .ok (.nop, [1]) ∧
    decode .cpu12xv0 [0x18, 0x02, 0xE2, 1, 2, 0xE2, 3, 4] = .ok (.movw (.idxIdx (.off16 .x 0x0102) (.off16 .x 0x0304)), []) ∧
    8 ≤ [0x18#8, 0x02, 0xE2, 1, 2, 0xE2, 3, 4].length := ⟨rfl, rfl, by decide⟩

theorem witness_IndexedAddressing : (0 : BitVec 2) ≠ 3 ∧ (1 : BitVec 2) ≠ 3 ∧ (2 : BitVec 2) ≠ 3 := by decide

theorem witness_UnassignedOpcodesTrap : (open_ .cpu12v1).cfg.version = .cpu12v1 ∧ Version.cpu12v1.hasFuzzy = false ∧
    (open_ .cpu12xv0).cfg.version = .cpu12xv0 ∧
    (0x30 : Nat) ≤ 0x30 ∧ (0x30 : Nat) ≤ 0x39 ∧ (0x40 : Nat) ≤ 0xFF ∧
    decode .cpu12v0 [0x18, 0x39] = .ok (.trap 0x39, []) ∧ decode .cpu12v1 [0x18, 0x40] = .ok (.trap 0x40, []) ∧
    decode .cpu12xv1 [0x18, 0xCF] = .ok (.trap 0xCF, []) ∧ decode .cpu12xv0 [0x18, 0x34] = .ok (.trap 0x34, []) :=
  ⟨rfl, rfl, rfl, by decide, by decide, by decide, rfl, rfl, rfl, rfl⟩

theorem witness_ReservedFormsRefused : (Indexed.indD .pc).isDirect = false ∧ (Indexed.ind16 .x 0).isDirect = false ∧
    Version.cpu12xv0.isX = true ∧ Version.cpu12v0.isX = false ∧ (Indexed.off9 .x 0).isShort = false ∧
    (Indexed.off16 .sp 0xFFFF).isShort = false ∧ (Indexed.off5 .pc (-16)).isShort = true ∧ (0x08 : Byte).getLsbD 3 = true := by decide

/-- A map in which page 1 of the window and the global page $0F show local memory from $1000 on, PPAGE is at $0030, and
memory is missing, a device and read-only from $2000, $2800 and $C000 on. -/
def shared : Phys :=
  { expanded := true
    regions := [{ first := (windowBase + 0x4000) / 16, last := (windowBase + 0x7FFF) / 16, target := 0x100 },
      { first := (globalBase + 0xF0000) / 16, last := (globalBase + 0xF0FFF) / 16, target := 0x100 }]
    areas := [{ first := 0x2000, last := 0x27FF, kind := .absent }, { first := 0x2800, last := 0x28FF, kind := .device },
      { first := 0xC000, last := 0xFFFF, kind := .readOnly }]
    ppageAt := some 0x30
    gpageAt := none
    directAt := none
    vectorBaseAt := none }

/-- Memory shared by a local address, a page of the window and a global page, and not by the page before. -/
theorem test_shared_memory :
    let s := ((mapped shared (open_ .cpu12xv0)).setPpage 1).write8 0x1000 0xAB
    let g := ((mapped shared (open_ .cpu12xv0)).setPpage 1).gwrite8 0x0F 0x0FFF 0xCD
    (s.read8 0x1000, s.read8 0x8000, s.gread8 0x0F 0x0000, (s.setPpage 0).read8 0x8000) = (0xAB, 0xAB, 0xAB, 0) ∧
    (g.read8 0x1FFF, g.read8 0x8FFF, (s.write8 0xC000 1).read8 0xC000) = (0xCD, 0xCD, 0) := by decide

/-- A store through another address of a byte that is queued: the step that would run the byte is refused (R86). -/
theorem test_store_through_window_marks :
    let s := ((code .cpu12xv0 0x1000 [0x7A, 0x80, 0x03, 0xA7]).setPpage 1 |> mapped shared)
    runs (step s) = true ∧ (after s).stale = [0x1003] ∧ refusal (step (after s)) = some .storedIntoQueue := by decide

/-- Plain memory at the ends of the address space and of global memory; the ends of each run of addresses that are not
plain memory; a map with regions and one without; inside and outside the window. -/
theorem witness_MemoryHoldsWhatIsStored :
    let s := mapped shared (open_ .cpu12xv0)
    (open_ .cpu12xv0).plain 0xFFFF 1 ∧ (open_ .cpu12xv0).plain 0xFFFF 2 ∧ s.locAt (globalKey 0x7F 0xFFFF) = .cell 0xFFFFFF ∧
    s.cfg.phys.writable 0xFFFFFF = true ∧ shared.regions ≠ [] ∧ Phys.plain.regions = [] ∧
    (∀ k ∈ [0x2000, 0x27FF, 0x2800, 0x28FF, 0xC000, 0xFFFF], some k ≠ shared.ppageAt ∧ shared.areaAt k ≠ none) ∧
    some 0x2000 ∉ [shared.gpageAt, shared.directAt, shared.vectorBaseAt] ∧
    inWindow 0x8000 = true ∧ inWindow 0xBFFF = true ∧ inWindow 0x7FFF = false ∧ inWindow 0xC000 = false :=
  ⟨plain_of_default rfl _ _, plain_of_default rfl _ _, by decide, by decide, by decide, by decide, by decide, by decide,
    by decide, by decide, by decide, by decide⟩

/-- A NOP, and an instruction of eight bytes over the end of the address space. -/
theorem witness_StepRunsDecodedInstruction :
    let s := open_ .cpu12xv0
    let long := code .cpu12xv0 0xFFFC [0x18, 0x02, 0xE2, 1, 2, 0xE2, 3, 4]
    (s.env.reset = none ∧ s.run = .running ∧ s.begin.recognised s.env = none ∧ s.env.forced = none ∧
      decode s.cfg.version ((List.range 8).map fun k => s.begin.read8 (s.pc + BitVec.ofNat 16 k)) =
        .ok (.nop, [0, 0, 0, 0, 0, 0, 0]) ∧
      ∀ k < 1, s.pc + BitVec.ofNat 16 k ∉ s.stale) ∧
    long.env.reset = none ∧ long.run = .running ∧ long.begin.recognised long.env = none ∧ long.env.forced = none ∧
      decode long.cfg.version ((List.range 8).map fun k => long.begin.read8 (long.pc + BitVec.ofNat 16 k)) =
        .ok (.movw (.idxIdx (.off16 .x 0x0102) (.off16 .x 0x0304)), []) ∧
      ∀ k < 8, long.pc + BitVec.ofNat 16 k ∉ long.stale := by
  decide

/-- A store to PPAGE from inside the window, at its end, and from outside it. -/
theorem witness_StepRunsDecodedInstruction_paged :
    let inside := (mapped shared ((open_ .cpu12v0).setPc 0x8000)).load 0x8000 [0x7A, 0x00, 0x30]
    let ends := (mapped shared ((open_ .cpu12v0).setPc 0xBFFE)).load 0xBFFE [0x5A, 0x30]
    let outside := (mapped shared ((open_ .cpu12v0).setPc 0x4000)).load 0x4000 [0x5A, 0x30]
    refusal (step inside) = some .pageStoredInWindow ∧ refusal (step ends) = some .pageStoredInWindow ∧
    runs (step outside) = true ∧ (after outside).pageStored = true ∧ (after outside).ppage = outside.a := by decide

theorem witness_ForcedInstructions :
    let swi := withEnv .cpu12xv0 { Env.quiet with forced := some .swi }
    let bgnd := withEnv .cpu12v0 { Env.quiet with forced := some .bgnd }
    let wakes := (withEnv .cpu12v0 { Env.quiet with resume := true }).setRun .bdm
    (swi.env.reset = none ∧ swi.run = .running ∧ swi.begin.recognised swi.env = none ∧ swi.wav = none ∧
      swi.env.forced = some .swi) ∧ (swi.setWav (some { sop := 1, sow := 1 })).wav = some { sop := 1, sow := 1 } ∧
    (bgnd.env.reset = none ∧ bgnd.run = .running ∧ bgnd.begin.recognised bgnd.env = none ∧ bgnd.wav = none ∧
      bgnd.env.forced = some .bgnd) ∧ wakes.env.reset = none ∧ wakes.run = .bdm := by decide

/-- Each reason for a refusal is given by some state. -/
theorem witness_StopsOnlyWhereRefused :
    step (code .cpu12xv0 0x4000 [0x1A, 0xE7]) = .refused .reservedIndexedForm ∧
    step (code .cpu12xv0 0x4000 [0x04, 0xC0]) = .refused .reservedLoopPostbyte ∧
    step (code .cpu12v1 0x4000 [0xB7, 0x08]) = .refused .reservedTransferBit3 ∧
    step ((code .cpu12xv0 0x4000 [0xA7]).setStale [0x4000]) = .refused .storedIntoQueue ∧
    refusal (step ((mapped shared ((open_ .cpu12v0).setPc 0x9000)).load 0x9000 [0x79, 0x00, 0x30])) =
      some .pageStoredInWindow := ⟨rfl, rfl, rfl, rfl, by decide⟩

theorem witness_StepKeepsInvariant : (open_ .cpu12v0).Inv ∧ (open_ .cpu12xv2).Inv ∧
    (∃ t, step (open_ .cpu12v0) = .next t) ∧ ∃ t, step (open_ .cpu12xv2) = .next t :=
  ⟨⟨by decide, by decide, by decide⟩, ⟨by decide, by decide, by decide⟩, ⟨_, rfl⟩, ⟨_, rfl⟩⟩

/-- X rises by a reset and by an XIRQ; the CCR writers run with X set and with X clear. -/
theorem witness_XirqMaskRisesOnlyByXirqOrReset :
    let s := open_ .cpu12xv0
    let m := s.setCcr (Ccr.ofByte 0xFF)
    let r := withEnv .cpu12xv0 { Env.quiet with reset := some .cop }
    let q := withEnv .cpu12xv0 { Env.quiet with xirq := true }
    (s.ccr.x = false ∧ runs (exec .nop s) = true) ∧ ((after r).ccr.x = true ∧ r.ccr.x = false) ∧
    ((after q).ccr.x = true ∧ q.ccr.x = false) ∧ m.ccr.x = true ∧ m.userState = false ∧ s.userState = false ∧
    (∀ i ∈ [Instr.tap, .tfr false .b .ccr, .exg false .a .ccr, .pulc, .pulcw, .orcc 0xFF, .andcc 0xBF, .rti],
      runs (exec i m) = true ∧ runs (exec i s) = true) := by
  decide

/-- User state, with an instruction that enters an exception and with ones that do not. -/
theorem witness_UserStateKeepsControlBits :
    let u := (open_ .cpu12xv2).setCcrh { u := true, ipl := 0 }
    u.userState = true ∧ (∃ t, exec .swi u = .next t) ∧ (∃ t, exec (.trap 0x30) u = .next t) ∧
    (∃ t, exec (.orcc 0xFF) u = .next t) ∧ (∃ t, exec .bgnd u = .next t) ∧
    (∃ t, exec .wai u = .next t) :=
  ⟨rfl, ⟨_, rfl⟩, ⟨_, rfl⟩, ⟨_, rfl⟩, ⟨_, rfl⟩, ⟨_, rfl⟩⟩

theorem witness_InhibitFollowsClearedMask :
    let s := (open_ .cpu12v0).setCcr (Ccr.ofByte 0x10)
    s.iDelay = false ∧ (∃ t, exec .cli s = .next t) ∧ (∃ t, exec .nop s = .next t) ∧
    (s.setIDelay true).iDelay = true := ⟨rfl, ⟨_, rfl⟩, ⟨_, rfl⟩, rfl⟩

/-- 99 and 99 with a carry, and 0 and 0: the sums that DAA corrects. -/
theorem witness_DecimalAdjust :
    let s := ((open_ .cpu12v0).setA 0x33).setCcr { Ccr.ofByte 0 with h := true, c := true }
    let z := open_ .cpu12v0
    ((99 : Nat) < 100 ∧ s.a = addedValue 0x99 0x99 true ∧ s.ccr.h = addedHalf 0x99 0x99 true ∧
      s.ccr.c = decide (2 ^ 8 ≤ exactSum (0x99 : Byte) 0x99 true) ∧ (BitVec.ofNat 8 (99 / 10 * 16 + 99 % 10)) = 0x99#8) ∧
    z.a = addedValue (0 : Byte) 0 false ∧ z.ccr.h = addedHalf 0 0 false ∧
      z.ccr.c = decide (2 ^ 8 ≤ exactSum (0 : Byte) 0 false) := by decide

theorem witness_CcrWritesAndMasks : (open_ .cpu12xv0).cfg.version.isX = true := by decide

/-- Each clause of the divisions at the boundary of its range: a zero divisor, the smallest quotient that does not fit,
the largest that does (R383 to R389; the rows without a divisor of zero by hand). -/
theorem test_unsigned_division_clauses :
    let s := (open_ .cpu12v0).setX 2
    let t := got (exec .ediv ((s.setY 2).setD 0))
    let u := got (exec .ediv ((s.setY 1).setD 0xFFFF))
    let w := got (exec .fdiv (s.setD 2))
    let k := got (exec .fdiv (s.setD 1))
    (t.ccr.v, t.ccr.c, t.y) = (true, false, 2) ∧ (u.ccr.v, u.y, u.d) = (false, 0xFFFF, 1) ∧
    (w.ccr.v, w.ccr.c, w.x) = (true, false, 0xFFFF) ∧ (k.ccr.v, k.x, k.d) = (false, 0x8000, 0) ∧
    (got (exec .ediv (s.setX 0))).ccr.c = true ∧ (got (exec .fdiv (s.setX 0))).ccr.c = true ∧
    (got (exec .idiv (s.setX 0))).ccr.c = true ∧ (got (exec .idiv (s.setX 1))).ccr.c = false := by decide

/-- EDIVS and IDIVS: a zero divisor, the quotients 32768, which does not fit, 32767 and -32768, which do. -/
theorem test_signed_division_clauses :
    let s := (open_ .cpu12v0).setX 1
    let t := got (exec .edivs ((s.setY 0).setD 0x8000))
    let u := got (exec .edivs ((s.setY 0).setD 0x7FFF))
    let w := got (exec .edivs ((s.setY 0xFFFF).setD 0x8000))
    let k := got (exec .idivs ((s.setX 0xFFFF).setD 0x8000))
    (t.ccr.v, t.ccr.c) = (true, false) ∧ (u.ccr.v, u.y, u.d) = (false, 0x7FFF, 0) ∧
    (w.ccr.v, w.y, w.ccr.n) = (false, 0x8000, true) ∧ (k.ccr.v, k.ccr.c) = (true, false) ∧
    (got (exec .edivs (s.setX 0))).ccr.c = true ∧ (got (exec .idivs (s.setX 0))).ccr.c = true ∧
    (got (exec .idivs (s.setD 0x8000))).x = 0x8000 := by decide

theorem witness_Membership : (open_ .cpu12v0).cfg.version.hasFuzzy = true ∧
    (open_ .cpu12xv0).cfg.version.hasFuzzy = true ∧ (open_ .cpu12v1).cfg.version.hasFuzzy = false ∧
    (open_ .cpu12xv2).cfg.version.hasFuzzy = false := by decide

/-- REV on an end marker, a separator, an antecedent and a consequent (R474). -/
theorem witness_RuleEvaluation :
    let s := (((open_ .cpu12xv0).load 0x1000 [0xFF, 0xFE, 0x01]).load 0x2000 [0x80, 0x20]).setY 0x2000
    let e := fun (x : Word) (v : Bool) => (s.setX x).setCcr { Ccr.ofByte 0 with v := v }
    s.cfg.version.hasFuzzy = true ∧ (got (exec .rev (e 0x1000 true))).pc = 0x4000 ∧
    (got (exec .rev (e 0x1001 true))).a = 0xFF ∧ (got (exec .rev ((e 0x1002 false).setA 0x30))).a = 0x20 ∧
    (got (exec .rev ((e 0x1002 true).setA 0x30))).read8 0x2001 = 0x30 := by decide

/-- REVW on the end marker, a separator with and without weights, an antecedent and a consequent (R475). -/
theorem test_revw_elements :
    let s := (((open_ .cpu12xv0).load 0x1000 [0xFF, 0xFF, 0xFE, 0x20, 0x01]).load 0x2000 [0x80, 0x20]).setY 0x2000
    let e := fun (x : Word) (f : Byte) => (s.setX x).setCcr (Ccr.ofByte f)
    (got (exec .revw (e 0x1000 0x02))).pc = 0x4000 ∧ (got (exec .revw (e 0x1001 0x02))).a = 0xFF ∧
    (got (exec .revw ((e 0x1001 0x01).setA 0x40))).a = 0x20 ∧ (got (exec .revw ((e 0x1001 0x00).setA 0x40))).a = 0x40 ∧
    (got (exec .revw ((e 0x1003 0x00).setA 0x30))).a = 0x20 ∧
    (got (exec .revw ((e 0x1003 0x02).setA 0x30))).read8 0x2001 = 0x30 := by decide

/-- A WAV with its sums kept, and one without (R476 to R478). -/
theorem witness_WeightedAveragePair :
    let s := open_ .cpu12xv0
    let w : WavSums := { sop := 0xFFFFFFFF, sow := 0xFFFF }
    s.cfg.version.hasFuzzy = true ∧ s.wav = none ∧ (s.setWav (some w)).wav = some w ∧
      (s.setWav (some w)).cfg.version.hasFuzzy = true := by decide

/-- Two pairs: `run 1` is the state after WAV, `run 2` the one after the `3C` byte. -/
theorem witness_WeightedAverageSums :
    let s := (open_ .cpu12xv0).setB 2
    let run : Nat → State := fun k => if k = 1 then got (exec .wav s) else got (exec .wavr (got (exec .wav s)))
    s.cfg.version.hasFuzzy = true ∧ exec .wav s = .next (run 1) ∧ exec .wavr (run 1) = .next (run 2) ∧
      (if s.b.toNat = 0 then 256 else s.b.toNat) = 2 := ⟨rfl, rfl, rfl, rfl⟩

theorem witness_ConditionsAfterCompare :
    let s := open_ .cpu12v0
    ∀ i ∈ [Instr.cmpa (.imm 0x80), .cmpb (.imm 0x7F), .cpd (.imm 0x8000), .cpx (.imm 0), .cpy (.mem (.dir 0)),
      .cps (.imm 0x3000), .cba], runs (exec i s) = true := by
  decide

/-- A stack in plain memory, at its boundary the top of the address space. -/
theorem witness_CallAndReturn : (open_ .cpu12v0).plain 0x2FFD 3 ∧ ((open_ .cpu12xv0).setSp 1).plain 0xFFFE 3 ∧
    (mapped shared (open_ .cpu12v0)).plain 0x7FFD 3 :=
  ⟨plain_of_default rfl _ _, plain_of_default rfl _ _, fun k hk => by
    rcases k with _ | _ | _ | k
    · exact ⟨⟨_, rfl, rfl⟩, fun _ => rfl⟩
    · exact ⟨⟨_, rfl, rfl⟩, fun _ => rfl⟩
    · exact ⟨⟨_, rfl, rfl⟩, fun _ => rfl⟩
    · omega⟩

/-- Every kind of call, with operands that move a register and the SP itself. -/
theorem witness_SubroutinesReturn :
    let s := open_ .cpu12v0
    s.plain (s.sp - 2) 2 ∧ s.plain (s.sp - 3) 3 ∧ (s.ea (.idx (.auto .sp true (-8)))).2.plain 0x2FF6 2 ∧
    (s.indexed (.auto .sp false 7)).2.plain 0x3005 3 ∧
    ∀ i ∈ [Instr.bsr 0x80, .jsr (.ext 0xFFFF), .jsr (.dir 0xFF), .jsr (.idx (.auto .sp true (-8))), .call (.ext 0 0xFF),
      .call (.idx (.auto .sp false 7) 0), .call (.ind (.indD .pc))], runs (exec i s) = true :=
  ⟨plain_of_default rfl _ _, plain_of_default rfl _ _, plain_of_default rfl _ _, plain_of_default rfl _ _, by decide⟩

/-- The frame of CPU12 and of CPU12X in plain memory, the first over the end of the address space; with SYS and without. -/
theorem witness_SoftwareExceptions :
    let s := (open_ .cpu12v0).setSp 4
    let t := open_ .cpu12xv1
    s.plain (s.sp - 9) 9 ∧ t.plain (t.sp - 10) 10 ∧ s.cfg.version.isX = false ∧ t.cfg.version.isX = true ∧
    s.cfg.version.hasSYS = false ∧ t.cfg.version.hasSYS = true :=
  ⟨plain_of_default rfl _ _, plain_of_default rfl _ _, rfl, rfl, rfl, rfl⟩

/-- An entry from a running program, and one inside a WAV. -/
theorem witness_ReturnUndoesEntry :
    let s := open_ .cpu12xv2
    let t := s.enter 0xF4 s.pc (.xirq 7)
    let w := (open_ .cpu12xv0).setWav (some { sop := 5, sow := 1 })
    let u := (w.withSumsStacked { sop := 5, sow := 1 }).enter 0x70 w.pc (.irq 1)
    (s.Inv ∧ s.plain (s.sp - BitVec.ofNat 16 s.frameSize) s.frameSize ∧ (s.ccr.x = true → t.ccr.x = true)) ∧
    w.Inv ∧ w.plain (w.sp - BitVec.ofNat 16 (w.frameSize + 6)) (w.frameSize + 6) ∧ w.wav = some { sop := 5, sow := 1 } ∧
      w.cfg.version.hasFuzzy = true ∧ (u.wav = none ∧ u.read8 w.x = w.read8 w.x ∧ u.read8 w.y = w.read8 w.y) ∧
      (w.ccr.x = true → u.ccr.x = true) :=
  ⟨⟨⟨by decide, by decide, by decide⟩, plain_of_default rfl _ _, by decide⟩, ⟨by decide, by decide, by decide⟩,
    plain_of_default rfl _ _, rfl, rfl, by decide, by decide⟩

theorem witness_WaitStopBackground :
    let s := open_ .cpu12xv2
    let u := s.setCcrh { u := true, ipl := 0 }
    let b := { s with cfg := { s.cfg with bdmEnabled := true } }
    s.userState = false ∧ u.userState = true ∧ s.ccr.s = false ∧ (s.setCcr (Ccr.ofByte 0x80)).ccr.s = true ∧
    s.cfg.bdmEnabled = false ∧ b.cfg.bdmEnabled = true ∧
    s.plain (s.sp - BitVec.ofNat 16 s.frameSize) s.frameSize :=
  ⟨rfl, rfl, rfl, rfl, rfl, rfl, plain_of_default rfl _ _⟩

/-- An access error; an XIRQ; nothing, masked and with no request above the level; two requests of one level. -/
theorem witness_RecognisedRequests :
    let s := (open_ .cpu12xv0).setCcrh { u := false, ipl := 3 }
    let irqs : List Irq := [{ vec := 0x70, level := 4 }, { vec := 0x72, level := 4 }, { vec := 0xF0, level := 3 }]
    s.recognised { Env.quiet with nmi := some 0xF4 } = some { vec := 0xF4, kind := .nmi 7 } ∧
    s.recognised { Env.quiet with xirq := true } = some { vec := 0xF4, kind := .xirq 7 } ∧
    (s.setCcr (Ccr.ofByte 0x50)).recognised { Env.quiet with xirq := true, irqs := irqs } = none ∧
    (s.setIDelay true).recognised { Env.quiet with irqs := irqs } = none ∧
    s.recognised { Env.quiet with irqs := [{ vec := 0xF0, level := 3 }] } = none ∧
    s.recognised { Env.quiet with irqs := irqs } = some { vec := 0x72, kind := .irq 4 } ∧
    (open_ .cpu12v0).recognised { Env.quiet with irqs := irqs } = some { vec := 0xF0, kind := .irq 3 } := by decide

theorem witness_InterruptEntry :
    let s := withEnv .cpu12xv0 { Env.quiet with irqs := [{ vec := 0x70, level := 1 }] }
    let x := withEnv .cpu12xv0 { Env.quiet with xirq := true }
    let w := s.setWav (some { sop := 1, sow := 1 })
    s.env.reset = none ∧ s.run = .running ∧ s.begin.recognised s.env = some { vec := 0x70, kind := .irq 1 } ∧
    s.rtiFrame = false ∧ s.wav = none ∧ x.begin.recognised x.env = some { vec := 0xF4, kind := .xirq 7 } ∧
    w.begin.recognised w.env = some { vec := 0x70, kind := .irq 1 } ∧ w.wav = some { sop := 1, sow := 1 } ∧
    (s.setRtiFrame true).rtiFrame = true ∧
    (s.setRtiFrame true).begin.recognised s.env = some { vec := 0x70, kind := .irq 1 } := by decide

theorem witness_WakeFromWaitAndStop :
    let s := (withEnv .cpu12v0 { Env.quiet with xirq := true }).setRun .stopped
    let m := s.setCcr (Ccr.ofByte 0xC0)
    let q := (open_ .cpu12v0).setRun .waiting
    s.env.reset = none ∧ s.run = .stopped ∧ s.begin.recognised s.env = some { vec := 0xF4, kind := .xirq 7 } ∧
    m.env.reset = none ∧ m.run = .stopped ∧ m.begin.recognised m.env = none ∧ (m.env.xirq && m.ccr.x) = true ∧
    q.env.reset = none ∧ q.run = .waiting ∧ q.begin.recognised q.env = none := by decide

theorem witness_ResetSequence :
    (withEnv .cpu12v0 { Env.quiet with reset := some .powerOn }).env.reset = some .powerOn ∧
    (withEnv .cpu12v0 { Env.quiet with reset := some .clockMonitor }).env.reset = some .clockMonitor ∧
    ((withEnv .cpu12xv2 { Env.quiet with reset := some .cop }).setRun .stopped).env.reset = some .cop := by decide

end Sys2Proof.Machine.Tests
end

section
/-!
SUPPORT. Memory (20_memory.md): what every address reads as after a store in plain memory, which access lies where, and
what does not take a byte.
-/

namespace Sys2Proof.Machine

/-! ## The bytes of a word (R61) -/

theorem hiByte_toNat (w : Word) : (hiByte w).toNat = w.toNat / 256 := by
  unfold hiByte
  rw [BitVec.extractLsb'_toNat, Nat.shiftRight_eq_div_pow]
  omega

theorem loByte_toNat (w : Word) : (loByte w).toNat = w.toNat % 256 := by
  unfold loByte
  rw [BitVec.extractLsb'_toNat, Nat.shiftRight_zero]

theorem word_ofNat_toNat_succ (a : Word) : BitVec.ofNat 16 (a.toNat + 1) = a + 1#16 := by bv_omega

/-! ## Stores in plain memory (R61, R62, R64, R67) -/

/-- After a byte is stored in plain memory, by whatever access, every local address. -/
theorem State.read8_store_cell {s : State} {k : Nat} (hw : s.cfg.phys.writable k = true) (v : Byte) (b : Word) :
    (s.store (.cell k) v).read8 b = if s.locate b = .cell k then v else s.read8 b := by
  rw [State.read8, State.locate_store (by simp), State.peek_store_cell hw, State.read8]

/-- After a byte is stored in plain memory, by whatever access, every global address. -/
theorem State.gread8_store_cell {s : State} {k : Nat} (hw : s.cfg.phys.writable k = true) (v : Byte) (p : BitVec 7)
    (b : Word) :
    (s.store (.cell k) v).gread8 p b = if s.locAt (globalKey p b) = .cell k then v else s.gread8 p b := by
  rw [State.gread8, State.locAt_of_cfg (State.store_cfg s _ v), State.peek_store_cell hw, State.gread8]

/-- The first bytes of a plain stretch can be written. -/
theorem State.plain.ram {s : State} {a : Word} {n : Nat} (h : s.plain a n) {k : Nat} (hk : k < n) :
    s.ram (a + BitVec.ofNat 16 k) :=
  (h k hk).1

/-- A byte stored in plain memory, and every local and global address. -/
theorem State.reads_after_write8 {s : State} {a : Word} (h : s.ram a) (v : Byte) :
    (∀ b, (s.write8 a v).read8 b = if s.locate b = s.locate a then v else s.read8 b) ∧
      ∀ p b, (s.write8 a v).gread8 p b = if s.locAt (globalKey p b) = s.locate a then v else s.gread8 p b := by
  obtain ⟨k, hk, hw⟩ := h
  rw [State.write8, hk]
  exact ⟨State.read8_store_cell hw v, State.gread8_store_cell hw v⟩

/-- A byte stored in plain memory through a global address, and every local and global address. -/
theorem State.reads_after_gwrite8 {s : State} {p : BitVec 7} {a : Word} {k : Nat}
    (hk : s.locAt (globalKey p a) = .cell k) (hw : s.cfg.phys.writable k = true) (v : Byte) :
    (∀ b, (s.gwrite8 p a v).read8 b = if s.locate b = .cell k then v else s.read8 b) ∧
      ∀ q b, (s.gwrite8 p a v).gread8 q b = if s.locAt (globalKey q b) = .cell k then v else s.gread8 q b := by
  rw [State.gwrite8, hk]
  exact ⟨State.read8_store_cell hw v, State.gread8_store_cell hw v⟩

/-- After a word is stored in plain memory, every address: the low byte where the second address lies, the high byte
where the first does, the old byte elsewhere. -/
theorem State.read8_write16 {s : State} {a : Word} (h0 : s.ram a) (h1 : s.ram (a + 1#16)) (v b : Word) :
    (s.write16 a v).read8 b =
      if s.locate b = s.locate (a + 1#16) then loByte v
      else if s.locate b = s.locate a then hiByte v else s.read8 b := by
  have hl : ∀ c, (s.write8 a (hiByte v)).locate c = s.locate c := State.locate_write8 h0 _
  have h1' : (s.write8 a (hiByte v)).ram (a + 1#16) := State.ram_congr (State.write8_cfg s a _) (hl _) h1
  rw [State.write16, State.read8_write8 h1', hl, hl, State.read8_write8 h0]

/-- The two bytes of a word lie apart. -/
theorem State.locate_succ_ne (s : State) (a : Word) : s.locate a ≠ s.locate (a + 1#16) := by
  intro h
  have hmod : a.toNat % 16 = (a + 1#16).toNat % 16 := State.locate_mod rfl h
  bv_omega

/-- A word stored in plain memory: it reads back, its high byte first, and the bytes elsewhere stay. -/
theorem State.reads_after_write16 {s : State} {a : Word} (h0 : s.ram a) (h1 : s.ram (a + 1#16)) (v : Word) :
    (s.write16 a v).read16 a = v ∧ (s.write16 a v).read8 a = hiByte v ∧
      (s.write16 a v).read8 (a + 1#16) = loByte v ∧
      ∀ b, s.locate b ≠ s.locate a → s.locate b ≠ s.locate (a + 1#16) → (s.write16 a v).read8 b = s.read8 b := by
  have hhi : (s.write16 a v).read8 a = hiByte v := by
    rw [State.read8_write16 h0 h1, if_neg (s.locate_succ_ne a), if_pos rfl]
  have hlo : (s.write16 a v).read8 (a + 1#16) = loByte v := by
    rw [State.read8_write16 h0 h1, if_pos rfl]
  refine ⟨?_, hhi, hlo, fun b hb hb1 => ?_⟩
  · rw [State.read16, hhi, hlo, joinBytes_hi_lo]
  · rw [State.read8_write16 h0 h1, if_neg hb1, if_neg hb]

/-! ## The number of an access (R67, R68) -/

theorem inWindow_iff (a : Word) : inWindow a = true ↔ 0x8000 ≤ a.toNat ∧ a.toNat < 0xC000 := by
  simp [inWindow]

/-- The low fourteen bits of an address in the window are its offset there. -/
theorem windowOffset_eq {a : Word} (h : inWindow a = true) : (a.extractLsb' 0 14).toNat = a.toNat - 0x8000 := by
  obtain ⟨hlo, hhi⟩ := (inWindow_iff a).mp h
  rw [BitVec.extractLsb'_toNat, Nat.shiftRight_zero]
  omega

/-- In the window of an expanded map: the page, then the offset. -/
theorem State.localKey_inside {s : State} {a : Word} (h : s.cfg.phys.expanded = true ∧ inWindow a = true) :
    s.localKey a = windowBase + s.ppage.toNat * 2 ^ 14 + (a.extractLsb' 0 14).toNat := by
  rw [State.localKey, h.1, h.2, windowOffset_eq h.2]
  rfl

/-- Elsewhere: the address itself. -/
theorem State.localKey_outside {s : State} {a : Word} (h : ¬(s.cfg.phys.expanded = true ∧ inWindow a = true)) :
    s.localKey a = a.toNat := by
  rw [State.localKey, if_neg (by rwa [Bool.and_eq_true])]

/-- PPAGE decides what the window of an expanded map shows, and nothing else. -/
theorem State.locate_setPpage (s : State) (page : Byte) (a : Word) :
    (s.setPpage page).locate a =
      if s.cfg.phys.expanded = true ∧ inWindow a = true then
        s.locAt (windowBase + page.toNat * 2 ^ 14 + (a.extractLsb' 0 14).toNat)
      else s.locAt a.toNat := by
  rw [State.locate, State.locAt_of_cfg (State.setPpage_cfg s page)]
  split
  · next h => rw [State.localKey_inside (s := s.setPpage page) h, State.setPpage_ppage]
  · next h => rw [State.localKey_outside (s := s.setPpage page) h]

/-- Local accesses have one number exactly at one address and, in the window of an expanded map, one page. -/
theorem State.localKey_eq_iff {s t : State} (hc : s.cfg = t.cfg) (a b : Word) :
    s.localKey a = t.localKey b ↔
      a = b ∧ (s.cfg.phys.expanded = true → inWindow a = true → s.ppage = t.ppage) := by
  have ha := a.isLt
  have hb := b.isLt
  by_cases ia : s.cfg.phys.expanded = true ∧ inWindow a = true <;>
    by_cases ib : t.cfg.phys.expanded = true ∧ inWindow b = true
  · rw [State.localKey_inside ia, State.localKey_inside ib, windowOffset_eq ia.2, windowOffset_eq ib.2]
    have wa := (inWindow_iff a).mp ia.2
    have wb := (inWindow_iff b).mp ib.2
    have hpage : (s.cfg.phys.expanded = true → inWindow a = true → s.ppage = t.ppage) ↔ s.ppage = t.ppage :=
      ⟨fun h => h ia.1 ia.2, fun h _ _ => h⟩
    rw [hpage, ← BitVec.toNat_inj, ← BitVec.toNat_inj]
    omega
  · rw [State.localKey_inside ia, State.localKey_outside ib]
    have hne : a ≠ b := fun e => ib (hc ▸ e ▸ ia)
    simp only [windowBase, hne, false_and, iff_false]
    omega
  · rw [State.localKey_outside ia, State.localKey_inside ib]
    have hne : a ≠ b := fun e => ia (hc ▸ e ▸ ib)
    simp only [windowBase, hne, false_and, iff_false]
    omega
  · rw [State.localKey_outside ia, State.localKey_outside ib, BitVec.toNat_inj]
    exact ⟨fun h => ⟨h, fun he hw => absurd ⟨he, hw⟩ ia⟩, fun h => h.1⟩

/-- The numbers of local accesses are below those of global ones. -/
theorem State.localKey_lt_globalBase (s : State) (a : Word) : s.localKey a < globalBase := by
  have ha := a.isLt
  have hp := s.ppage.isLt
  by_cases h : s.cfg.phys.expanded = true ∧ inWindow a = true
  · have hoff := (a.extractLsb' 0 14).isLt
    rw [State.localKey_inside h]
    unfold windowBase globalBase
    omega
  · rw [State.localKey_outside h]
    unfold globalBase
    omega

theorem globalBase_le_globalKey (p : BitVec 7) (a : Word) : globalBase ≤ globalKey p a := by
  unfold globalKey
  omega

/-- Global accesses have one number exactly at one page and one offset. -/
theorem globalKey_eq_iff (p q : BitVec 7) (a b : Word) : globalKey p a = globalKey q b ↔ p = q ∧ a = b := by
  unfold globalKey
  rw [← BitVec.toNat_inj, ← BitVec.toNat_inj]
  omega

/-! ## The map (R8, R65, R88, D8, D10) -/

/-- The first region takes the accesses of its blocks; the others go on to the rest. -/
theorem Phys.physical_cons {p : Phys} {r : Region} {rest : List Region} (h : p.regions = r :: rest) (k : Nat) :
    p.physical k = if 16 * r.first ≤ k ∧ k < 16 * (r.last + 1) then k - 16 * r.first + 16 * r.target
      else ({ p with regions := rest } : Phys).physical k := by
  have hblock : (decide (r.first ≤ k / 16) && decide (k / 16 ≤ r.last)) =
      decide (16 * r.first ≤ k ∧ k < 16 * (r.last + 1)) := by
    rw [← Bool.decide_and, decide_eq_decide]
    omega
  unfold Phys.physical
  rw [h, List.find?_cons, hblock]
  split_ifs with hin
  · rw [decide_eq_true hin]
    dsimp only
    omega
  · rw [decide_eq_false hin]

/-- With no region in the map, accesses of different numbers lie apart. -/
theorem State.locAt_eq_iff {s t : State} (hc : s.cfg = t.cfg) (hr : s.cfg.phys.regions = []) (k j : Nat) :
    s.locAt k = t.locAt j ↔ k = j := by
  rw [State.locAt_of_cfg hc.symm]
  constructor
  · intro h
    have hphys := State.locAt_inj h
    rwa [Phys.physical_nil hr, Phys.physical_nil hr] at hphys
  · rintro rfl
    rfl

/-- The location an area makes of a physical address. -/
def AreaKind.loc (k : Nat) : AreaKind → Loc
  | .absent => .void k
  | .readOnly => .cell k
  | .device => .device k

/-- In an area that is not plain memory, away from the mapped registers, lies what the area says. -/
theorem State.locAt_of_area {s : State} {key : Nat} {kind : AreaKind}
    (hp : some (s.cfg.phys.physical key) ≠ s.cfg.phys.ppageAt)
    (hx : s.cfg.version.isX = true → some (s.cfg.phys.physical key) ∉
      [s.cfg.phys.gpageAt, s.cfg.phys.directAt, s.cfg.phys.vectorBaseAt])
    (ha : s.cfg.phys.areaAt (s.cfg.phys.physical key) = some kind) :
    s.locAt key = kind.loc (s.cfg.phys.physical key) := by
  have notAt : ∀ {at_ : Option Nat}, at_ ∈ [s.cfg.phys.gpageAt, s.cfg.phys.directAt, s.cfg.phys.vectorBaseAt] →
      ¬(s.cfg.version.isX && at_ == some (s.cfg.phys.physical key)) = true := by
    intro at_ hmem heq
    rw [Bool.and_eq_true, beq_iff_eq] at heq
    exact hx heq.1 (heq.2 ▸ hmem)
  simp only [State.locAt]
  rw [if_neg hp.symm, if_neg (notAt (by simp)), if_neg (notAt (by simp)), if_neg (notAt (by simp)), ha]
  cases kind <;> rfl

/-- An area that is not plain memory takes no byte. -/
theorem State.kept_of_area {s : State} {k : Nat} {kind : AreaKind} (ha : s.cfg.phys.areaAt k = some kind) (v : Byte) :
    s.kept (kind.loc k) v = s.peek (kind.loc k) := by
  cases kind with
  | absent => rfl
  | device => rfl
  | readOnly =>
    have hw : s.cfg.phys.writable k = false := by simp [Phys.writable, ha]
    simp [AreaKind.loc, State.kept, hw]

/-- A store that a location does not take changes no byte. -/
theorem State.bytesKept_store {s : State} {l : Loc} {v : Byte} (h : s.kept l v = s.peek l) :
    s.bytesKept (s.store l v) [] := by
  intro j _
  by_cases e : j = l
  · rw [e, State.peek_store_same, h]
  · exact State.peek_store_other s v e

theorem AreaKind.loc_mem (k : Nat) (kind : AreaKind) : kind.loc k ∈ [Loc.void k, .device k, .cell k] := by
  cases kind <;> simp [AreaKind.loc]

/-- What is not plain memory, away from the mapped registers, takes no byte. -/
theorem State.store_area {s : State} {key : Nat}
    (hp : some (s.cfg.phys.physical key) ≠ s.cfg.phys.ppageAt)
    (hx : s.cfg.version.isX = true → some (s.cfg.phys.physical key) ∉
      [s.cfg.phys.gpageAt, s.cfg.phys.directAt, s.cfg.phys.vectorBaseAt])
    (ha : s.cfg.phys.areaAt (s.cfg.phys.physical key) ≠ none) (v : Byte) :
    s.locAt key ∈ [Loc.void (s.cfg.phys.physical key), .device (s.cfg.phys.physical key),
        .cell (s.cfg.phys.physical key)] ∧
      s.bytesKept (s.store (s.locAt key) v) [] := by
  obtain ⟨kind, hk⟩ := Option.ne_none_iff_exists'.mp ha
  rw [State.locAt_of_area hp hx hk]
  exact ⟨kind.loc_mem _, State.bytesKept_store (State.kept_of_area hk v)⟩

/-- With no region in the map, every local address, page of the window and global address has a place of its own. -/
theorem State.places_apart {s t : State} (hc : s.cfg = t.cfg) (hr : s.cfg.phys.regions = []) (a b : Word)
    (p q : BitVec 7) :
    (s.locate a = t.locate b ↔
        a = b ∧ (s.cfg.phys.expanded = true → inWindow a = true → s.ppage = t.ppage)) ∧
      (s.locAt (globalKey p a) = t.locAt (globalKey q b) ↔ p = q ∧ a = b) ∧
      s.locate b ≠ t.locAt (globalKey p a) := by
  refine ⟨?_, ?_, fun h => ?_⟩
  · rw [State.locate, State.locate, State.locAt_eq_iff hc hr, State.localKey_eq_iff hc]
  · rw [State.locAt_eq_iff hc hr, globalKey_eq_iff]
  · have hkey : s.localKey b = globalKey p a := (State.locAt_eq_iff hc hr _ _).mp h
    exact absurd (hkey ▸ s.localKey_lt_globalBase b) (Nat.not_lt.mpr (globalBase_le_globalKey p a))

/-! ## The statement -/

/-- Settles O9, clause by clause from the laws of stores, of the numbers of accesses and of the map. -/
theorem memoryHoldsWhatIsStored : Obligations.MemoryHoldsWhatIsStored := by
  refine ⟨fun s a v h => ?byte, fun s a v h => ?word, fun s p a v k hk hw => State.reads_after_gwrite8 hk hw v,
    State.locate_setPpage, fun p r rest k h => Phys.physical_cons h k,
    fun s key v hp hx ha => State.store_area hp hx ha v, fun s t hc hr => State.places_apart hc hr⟩
  case byte =>
    have h0 : s.ram a := by simpa using h.ram (k := 0) (by decide)
    exact State.reads_after_write8 h0 v
  case word =>
    have h0 : s.ram a := by simpa using h.ram (k := 0) (by decide)
    obtain ⟨hword, hhi, hlo, hrest⟩ := State.reads_after_write16 h0 (h.ram (k := 1) (by decide)) v
    rw [word_ofNat_toNat_succ]
    exact ⟨hword, by rw [hhi, hiByte_toNat], by rw [hlo, loByte_toNat], hrest⟩

end Sys2Proof.Machine
end

section
/-!
SUPPORT. Privilege and invariant (10_state.md R26, R28, R37; 60_exceptions.md R640 to R643, R660): what an instruction
may do to the control bits, said once for every instruction, and once for every entry to an exception.
-/

namespace Sys2Proof.Machine

/-! ## What updates may do to the control bits -/

/-- The bits of the CCR that user state protects: S, X and I (R37). -/
def Ccr.masks (f : Ccr) : Bool × Bool × Bool := (f.s, f.x, f.i)

/-- The parameters, the bits that user state protects, and the run state. -/
def State.control (s : State) : Cfg × (Bool × Bool × Bool) × Ccrh × RunState :=
  (s.cfg, s.ccr.masks, s.ccrh, s.run)

/-- From `s` to `t` the parameters stay and the invariant is kept. -/
structure State.Sound (s t : State) : Prop where
  cfg : t.cfg = s.cfg
  inv : s.Inv → t.Inv

/-- Besides, the XIRQ mask has not been raised (R28): what every instruction does. -/
structure State.Lawful (s t : State) : Prop extends s.Sound t where
  xmask : s.ccr.x = false → t.ccr.x = false

/-- Besides, user state has kept the control bits and the run state (R37, R660): what every instruction does that
enters no exception and is not BGND. -/
structure State.Permits (s t : State) : Prop extends s.Lawful t where
  user : s.userState = true → t.control = s.control

/-- The control bits, one by one. -/
theorem State.control_eq_iff {s t : State} :
    t.control = s.control ↔ t.cfg = s.cfg ∧ t.ccr.masks = s.ccr.masks ∧ t.ccrh = s.ccrh ∧ t.run = s.run := by
  simp only [State.control, Prod.mk.injEq]

/-- The invariant rests on the parameters, on memory and on CCRH. -/
theorem State.Inv.of_eq {s t : State} (h : s.Inv) (hc : t.cfg = s.cfg) (hh : t.ccrh = s.ccrh)
    (hm : Mem.wf s.mem = true → Mem.wf t.mem = true) : t.Inv := by
  obtain ⟨hmem, hu, hipl⟩ := h
  exact ⟨hm hmem, by rwa [hc, hh], by rwa [hc, hh]⟩

/-- User state rests on the parameters and on CCRH. -/
theorem State.userState_congr {s t : State} (hc : t.cfg = s.cfg) (hh : t.ccrh = s.ccrh) :
    t.userState = s.userState := by
  rw [State.userState, State.userState, hc, hh]

theorem State.Sound.trans {s t u : State} (h : s.Sound t) (g : t.Sound u) : s.Sound u :=
  ⟨g.cfg.trans h.cfg, fun hi => g.inv (h.inv hi)⟩

theorem State.Lawful.trans {s t u : State} (h : s.Lawful t) (g : t.Lawful u) : s.Lawful u :=
  ⟨h.toSound.trans g.toSound, fun hx => g.xmask (h.xmask hx)⟩

theorem State.Permits.trans {s t u : State} (h : s.Permits t) (g : t.Permits u) : s.Permits u := by
  refine ⟨h.toLawful.trans g.toLawful, fun hs => ?_⟩
  have ht : t.control = s.control := h.user hs
  obtain ⟨hcfg, -, hccrh, -⟩ := State.control_eq_iff.mp ht
  exact (g.user ((State.userState_congr hcfg hccrh).trans hs)).trans ht

/-- An update that leaves the control bits, and memory in its canonical form. -/
theorem State.permits_of_control {s t : State} (h : t.control = s.control)
    (hm : Mem.wf s.mem = true → Mem.wf t.mem = true) : s.Permits t := by
  obtain ⟨hcfg, hmasks, hccrh, -⟩ := State.control_eq_iff.mp h
  have hx : t.ccr.x = s.ccr.x := congrArg (fun p : Bool × Bool × Bool => p.2.1) hmasks
  exact ⟨⟨⟨hcfg, fun hi => hi.of_eq hcfg hccrh hm⟩, fun h0 => hx.trans h0⟩, fun _ => h⟩

theorem State.permits_refl (s : State) : s.Permits s := State.permits_of_control rfl id

/-- An update of registers and flags that follows. -/
theorem State.Permits.regs {s t u : State} (h : s.Permits t) (hc : u.control = t.control) (hm : u.mem = t.mem) :
    s.Permits u :=
  h.trans (State.permits_of_control hc fun hw => by rwa [hm])

/-- An update of registers and flags. -/
theorem State.permits_regs {s t : State} (hc : t.control = s.control) (hm : t.mem = s.mem) : s.Permits t :=
  s.permits_refl.regs hc hm

/-! ## Registers and flags -/

section
variable {s t : State} (h : s.Permits t)
include h

theorem State.Permits.setA (v : Byte) : s.Permits (t.setA v) := h.regs rfl rfl
theorem State.Permits.setB (v : Byte) : s.Permits (t.setB v) := h.regs rfl rfl
theorem State.Permits.setX (v : Word) : s.Permits (t.setX v) := h.regs rfl rfl
theorem State.Permits.setY (v : Word) : s.Permits (t.setY v) := h.regs rfl rfl
theorem State.Permits.setSp (v : Word) : s.Permits (t.setSp v) := h.regs rfl rfl
theorem State.Permits.setD (v : Word) : s.Permits (t.setD v) := h.regs rfl rfl
theorem State.Permits.setPc (v : Word) : s.Permits (t.setPc v) := h.regs rfl rfl
theorem State.Permits.setPpage (v : Byte) : s.Permits (t.setPpage v) := h.regs rfl rfl
theorem State.Permits.setWav (v : Option WavSums) : s.Permits (t.setWav v) := h.regs rfl rfl
theorem State.Permits.drop (n : Nat) : s.Permits (t.drop n) := h.regs rfl rfl
theorem State.Permits.jump (p : Word) : s.Permits (t.jump p) := h.regs rfl rfl

theorem State.Permits.setAutoReg (r : AutoReg) (v : Word) : s.Permits (t.setAutoReg r v) :=
  h.regs (by simp [State.control]) (by simp)

theorem State.Permits.setAcc (r : Acc) (v : Byte) : s.Permits (t.setAcc r v) := by
  cases r
  · exact h.setA v
  · exact h.setB v

theorem State.Permits.setWide (r : Wide) (v : Word) : s.Permits (t.setWide r v) := by
  cases r
  · exact h.setD v
  · exact h.setX v
  · exact h.setY v
  · exact h.setSp v

/-- Flags that leave S, X and I. -/
theorem State.Permits.setCcr {f : Ccr} (hf : (f.s, f.x, f.i) = (t.ccr.s, t.ccr.x, t.ccr.i)) : s.Permits (t.setCcr f) :=
  h.regs (State.control_eq_iff.mpr ⟨rfl, hf, rfl, rfl⟩) rfl

end

/-- The run state is none of the invariant's, nor a mask. -/
theorem State.Lawful.setRun {s t : State} (h : s.Lawful t) (r : RunState) : s.Lawful (t.setRun r) :=
  h.trans ⟨⟨rfl, fun hi => hi.of_eq rfl rfl id⟩, id⟩

/-! ## Stores and pushes -/

/-- A store keeps memory in its canonical form (R60). -/
theorem State.wf_poke {s : State} (l : Loc) (v : Byte) (h : Mem.wf s.mem = true) : Mem.wf (s.poke l v).mem = true := by
  cases l <;> simp only [State.poke]
  case cell k =>
    split
    · rw [State.setMem_mem]
      exact Mem.wf_set k v h
    · exact h
  case ppage => split <;> exact h
  all_goals exact h

theorem State.permits_store (s : State) (l : Loc) (v : Byte) : s.Permits (s.store l v) :=
  State.permits_of_control (by simp [State.control]) (State.wf_poke (s := s.markStale l) l v)

theorem State.Permits.write8 {s t : State} (h : s.Permits t) (a : Word) (v : Byte) : s.Permits (t.write8 a v) :=
  h.trans (t.permits_store _ v)

theorem State.Permits.write16 {s t : State} (h : s.Permits t) (a v : Word) : s.Permits (t.write16 a v) :=
  (h.write8 a (hiByte v)).write8 (a + 1#16) (loByte v)

theorem State.Permits.gwrite8 {s t : State} (h : s.Permits t) (p : BitVec 7) (a : Word) (v : Byte) :
    s.Permits (t.gwrite8 p a v) :=
  h.trans (t.permits_store _ v)

theorem State.Permits.gwrite16 {s t : State} (h : s.Permits t) (a v : Word) : s.Permits (t.gwrite16 a v) :=
  (h.gwrite8 t.gpage a (hiByte v)).gwrite8 (t.gnextPage a) (a + 1#16) (loByte v)

theorem State.Permits.push8 {s t : State} (h : s.Permits t) (v : Byte) : s.Permits (t.push8 v) :=
  (h.setSp (t.sp - 1#16)).write8 (t.sp - 1#16) v

theorem State.Permits.push16 {s t : State} (h : s.Permits t) (v : Word) : s.Permits (t.push16 v) :=
  (h.setSp (t.sp - 2#16)).write16 (t.sp - 2#16) v

theorem State.Permits.stackFrame {s t : State} (h : s.Permits t) (rtn : Word) : s.Permits (t.stackFrame rtn) := by
  have hwords := (((h.push16 rtn).push16 t.y).push16 t.x).push16 (joinBytes t.b t.a)
  unfold State.stackFrame State.pushCcr
  split
  · simpa using hwords.push16 _
  · simpa using hwords.push8 _

/-! ## Addressing modes -/

/-- A mode moves at most one register, which is no control bit. -/
theorem State.permits_of_modeOnly {s t : State} {r : Option AutoReg} (h : s.modeOnly t r) : s.Permits t :=
  State.permits_regs
    (by simp only [State.control, State.modeOnly_cfg h, State.modeOnly_ccr h, State.modeOnly_ccrh h,
      State.modeOnly_run h])
    (State.modeOnly_mem h)

theorem State.permits_indexedFrom (s : State) (pc : Word) (xb : Indexed) : s.Permits (s.indexedFrom pc xb).2 :=
  State.permits_of_modeOnly (s.indexedFrom_modeOnly pc xb)

theorem State.permits_indexed (s : State) (xb : Indexed) : s.Permits (s.indexed xb).2 := s.permits_indexedFrom s.pc xb

theorem State.permits_ea (s : State) (op : DirExtIdx) : s.Permits (s.ea op).2 :=
  State.permits_of_modeOnly (s.ea_modeOnly op)

theorem State.permits_eaExtIdx (s : State) (op : ExtIdx) : s.Permits (s.eaExtIdx op).2 :=
  State.permits_of_modeOnly (s.eaExtIdx_modeOnly op)

theorem State.permits_src8 (s : State) (op : Src8) : s.Permits (s.src8 op).2 :=
  State.permits_of_modeOnly (s.src8_modeOnly op)

theorem State.permits_src16 (s : State) (op : Src16) : s.Permits (s.src16 op).2 :=
  State.permits_of_modeOnly (s.src16_modeOnly op)

/-! ## The CCR write paths (R200, R201) -/

/-- A CCRH write leaves the bits a version lacks at 0 (R26, R37). -/
theorem writtenCcrh_absent (version : Version) (user : Bool) (old : Ccrh) (v : Byte) :
    (version.hasUser = false → old.u = false → (writtenCcrh version user old v).u = false) ∧
      (version.isX = false → old.ipl = 0#3 → (writtenCcrh version user old v).ipl = 0#3) := by
  cases user
  · exact ⟨fun h _ => by simp [writtenCcrh, h], fun h _ => by simp [writtenCcrh, h]⟩
  · exact ⟨fun _ h => h, fun _ h => h⟩

theorem State.permits_writeCcr (s : State) (v : Byte) : s.Permits (s.writeCcr v) := by
  refine ⟨⟨⟨by simp, fun hi => hi.of_eq (by simp) (by simp) (by simp)⟩, fun hx => ?_⟩, fun hu => ?_⟩
  · rw [State.writeCcr_ccr]
    exact writtenCcr_x _ _ v hx
  · rw [State.control_eq_iff, State.writeCcr_ccr, hu]
    exact ⟨by simp, writtenCcr_user s.ccr v, by simp, by simp⟩

theorem State.permits_writeCcrh (s : State) (v : Byte) : s.Permits (s.writeCcrh v) := by
  refine ⟨⟨⟨rfl, fun ⟨hmem, hu, hipl⟩ => ?_⟩, id⟩, fun hu => ?_⟩
  · obtain ⟨hu', hipl'⟩ := writtenCcrh_absent s.cfg.version s.userState s.ccrh v
    exact ⟨hmem, fun h => hu' h (hu h), fun h => hipl' h (hipl h)⟩
  · simp [State.control, hu, writtenCcrh]

/-- A CCRW write is a CCRH write, then a CCR write under the privilege of before (R201). -/
theorem State.permits_writeCcrw (s : State) (w : Word) : s.Permits (s.writeCcrw w) := by
  have hlow : s.Permits (s.writeCcr (loByte w)) := s.permits_writeCcr _
  have hhigh : s.Permits (s.writeCcrh (hiByte w)) := s.permits_writeCcrh _
  refine ⟨⟨⟨by simp, fun hi => (hhigh.inv hi).of_eq (by simp) (by simp) (by simp)⟩, fun hx => ?_⟩, fun hu => ?_⟩
  · simpa using hlow.xmask hx
  · obtain ⟨-, hmasks, -, -⟩ := State.control_eq_iff.mp (hlow.user hu)
    obtain ⟨-, -, hccrh, -⟩ := State.control_eq_iff.mp (hhigh.user hu)
    exact State.control_eq_iff.mpr ⟨by simp, by simpa using hmasks, by simpa using hccrh, by simp⟩

theorem State.Permits.pullCcr {s t : State} (h : s.Permits t) : s.Permits t.pullCcr := by
  rw [State.pullCcr_eq]
  split
  · exact (h.drop 2).trans (State.permits_writeCcrw _ _)
  · exact (h.drop 1).trans (State.permits_writeCcr _ _)

/-! ## Transfers and exchanges (R190 to R204) -/

theorem State.Permits.setWordSlot {s t : State} (h : s.Permits t) (r : WordSlot) (v : Word) :
    s.Permits (t.setWordSlot r v) := by
  cases r
  case ccrw => exact h.trans (t.permits_writeCcrw v)
  all_goals exact h.regs rfl rfl

theorem State.Permits.setByteSlot {s t : State} (h : s.Permits t) (p : ByteSlot) (v : Byte) :
    s.Permits (t.setByteSlot p v) := by
  cases p
  case a => exact h.regs rfl rfl
  case b => exact h.regs rfl rfl
  case ccr => exact h.trans (t.permits_writeCcr v)
  case ccrh => exact h.trans (t.permits_writeCcrh v)
  case high r => exact h.setWordSlot r _
  case low r => exact h.setWordSlot r _

theorem State.permits_transfer (s : State) (src dst : Slot) : s.Permits (s.transfer src dst) := by
  cases src <;> cases dst
  case byte.byte | word.byte => exact s.permits_refl.setByteSlot _ _
  case byte.word | word.word => exact s.permits_refl.setWordSlot _ _

theorem State.permits_tfr (s : State) (hi : Bool) (src dst : XReg) : s.Permits (s.tfr hi src dst) := by
  unfold State.tfr
  split <;> exact s.permits_transfer _ _

theorem State.permits_sex (s : State) (hi : Bool) (src dst : XReg) : s.Permits (s.sex hi src dst) := by
  unfold State.sex
  split
  · exact State.permits_regs rfl rfl
  split
  · exact State.permits_regs rfl rfl
  · exact s.permits_tfr hi src dst

theorem State.permits_exchangeBytes (s : State) (p q : ByteSlot) : s.Permits (s.exchangeBytes p q) :=
  (s.permits_refl.setByteSlot q _).setByteSlot p _

theorem State.permits_exchangeWords (s : State) (p q : WordSlot) : s.Permits (s.exchangeWords p q) :=
  (s.permits_refl.setWordSlot q _).setWordSlot p _

theorem State.permits_exchangeByteWord (s : State) (p : ByteSlot) (r : WordSlot) :
    s.Permits (s.exchangeByteWord p r) := by
  unfold State.exchangeByteWord
  split
  · exact State.permits_regs rfl rfl
  · exact (s.permits_refl.setWordSlot r _).setByteSlot p _

theorem State.permits_exchangeWordByte (s : State) (r : WordSlot) (q : ByteSlot) :
    s.Permits (s.exchangeWordByte r q) := by
  unfold State.exchangeWordByte
  split
  · exact State.permits_regs rfl rfl
  split
  · exact State.permits_regs rfl rfl
  · exact (s.permits_refl.setWordSlot r _).setByteSlot q _

theorem State.permits_exchange (s : State) (src dst : Slot) : s.Permits (s.exchange src dst) := by
  cases src <;> cases dst
  case byte.byte => exact s.permits_exchangeBytes _ _
  case byte.word => exact s.permits_exchangeByteWord _ _
  case word.byte => exact s.permits_exchangeWordByte _ _
  case word.word => exact s.permits_exchangeWords _ _

theorem State.permits_exchangeVariant (s : State) (src dst : XReg) : s.Permits (s.exchangeVariant src dst) := by
  unfold State.exchangeVariant
  split
  · exact State.permits_regs rfl rfl
  split
  · exact s.permits_exchangeBytes _ _
  · exact s.permits_refl.setWordSlot _ _
  · exact s.permits_exchangeWordByte _ _
  · exact s.permits_exchangeWords _ _

/-! ## Loads, moves, divisions -/

theorem State.Permits.setLoaded {s t : State} (h : s.Permits t) (r : AutoReg) (target : Option AutoReg) (v : Word) :
    s.Permits (t.setLoaded r target v) := by
  unfold State.setLoaded
  split
  · exact h
  · exact h.setAutoReg r v

theorem State.permits_loadIndex (s : State) (r : AutoReg) (op : Src16) : s.Permits (s.loadIndex r op) :=
  ((s.permits_src16 op).setLoaded r (Src16.autoTarget op) (s.src16 op).1).setCcr rfl

theorem State.permits_gloadIndex (s : State) (r : AutoReg) (op : DirExtIdx) : s.Permits (s.gloadIndex r op) :=
  ((s.permits_ea op).setLoaded r (DirExtIdx.autoTarget op) ((s.ea op).2.gread16 (s.ea op).1)).setCcr rfl

theorem State.permits_loadAddress (s : State) (r : AutoReg) (op : Indexed) : s.Permits (s.loadAddress r op) :=
  (s.permits_indexed op).setAutoReg r (s.indexed op).1

theorem State.permits_moveAddresses {α : Type} (s : State) (m : Move α) : s.Permits (s.moveAddresses m).2.2 := by
  cases m
  case immExt v d => exact s.permits_refl
  case immIdx v d => exact s.permits_indexed d
  case extExt a d => exact s.permits_refl
  case extIdx a d => exact s.permits_indexed d
  case idxExt x d => exact s.permits_indexed x
  case idxIdx x d => exact (s.permits_indexedFrom _ x).trans (State.permits_indexed _ d)

theorem State.permits_div32 (s : State) : s.Permits s.div32 := by
  unfold State.div32
  dsimp only
  split_ifs
  · exact s.permits_refl.setCcr rfl
  · exact s.permits_refl.setCcr rfl
  · exact ((s.permits_refl.setY _).setD _).setCcr rfl

theorem State.permits_div32Signed (s : State) : s.Permits s.div32Signed := by
  unfold State.div32Signed
  dsimp only
  split_ifs
  · exact s.permits_refl.setCcr rfl
  · exact s.permits_refl.setCcr rfl
  · exact ((s.permits_refl.setY _).setD _).setCcr rfl

theorem State.permits_divFraction (s : State) : s.Permits s.divFraction := by
  unfold State.divFraction
  dsimp only
  split_ifs <;> exact ((s.permits_refl.setX _).setD _).setCcr rfl

theorem State.permits_div16 (s : State) : s.Permits s.div16 := by
  unfold State.div16
  dsimp only
  split_ifs <;> exact ((s.permits_refl.setX _).setD _).setCcr rfl

theorem State.permits_div16Signed (s : State) : s.Permits s.div16Signed := by
  unfold State.div16Signed
  dsimp only
  split_ifs
  · exact s.permits_refl.setCcr rfl
  · exact ((s.permits_refl.setX _).setD _).setCcr rfl
  · exact ((s.permits_refl.setX _).setD _).setCcr rfl

/-! ## Change of flow -/

theorem State.Permits.branchIf {s t : State} (h : s.Permits t) (taken : Bool) (offset : Word) :
    s.Permits (t.branchIf taken offset) := by
  cases taken
  · exact h
  · exact h.regs rfl rfl

theorem State.permits_loopCount (s : State) (r : LoopReg) (delta : Int) : s.Permits (s.loopCount r delta).2 := by
  cases r <;> exact State.permits_regs rfl rfl

theorem State.permits_loop (s : State) (r : LoopReg) (delta : Int) (onZero : Bool) (off : BitVec 9) :
    s.Permits (s.loop r delta onZero off) :=
  (s.permits_loopCount r delta).branchIf _ _

theorem State.permits_pointerAddress (s : State) (xb : Indexed) : s.Permits (s.pointerAddress xb).2 := by
  cases xb
  case ind16 | indD => exact s.permits_refl
  all_goals exact s.permits_indexed _

theorem State.permits_callTarget (s : State) (op : CallOp) : s.Permits (s.callTarget op).2.2 := by
  cases op
  case ext a pg => exact s.permits_refl
  case idx xb pg => exact s.permits_indexed xb
  case ind xb => exact s.permits_pointerAddress xb

theorem State.permits_callSubroutine (s : State) (op : CallOp) : s.Permits (s.callSubroutine op) := by
  have ht : s.Permits (s.callTarget op).2.2 := s.permits_callTarget op
  generalize hc : s.callTarget op = c at ht
  obtain ⟨target, page, t⟩ := c
  simp only [State.callSubroutine, hc]
  split
  · exact (((ht.setPpage page).push16 t.pc).push8 t.ppage).jump target
  · exact (((ht.push16 t.pc).push8 t.ppage).setPpage page).jump target

/-- The return from an exception leaves the control bits as the pull of the status register does (R541). -/
theorem State.permits_returnFromException (s : State) : s.Permits s.returnFromException := by
  have hpull : s.Permits s.pullCcr := s.permits_refl.pullCcr
  refine hpull.regs ?_ ?_
  · simp only [State.returnFromException, State.control, State.setRtiFrame_cfg]
    simp
  · simp [State.returnFromException]

/-- WAI does nothing in user state; elsewhere it stacks a frame and changes the run state (R598). -/
theorem State.permits_waitForInterrupt (s : State) : s.Permits s.waitForInterrupt := by
  unfold State.waitForInterrupt
  split
  · exact s.permits_refl
  · next h =>
    have hf : s.Permits (s.stackFrame s.pc) := s.permits_refl.stackFrame s.pc
    exact ⟨hf.toLawful.setRun .waiting, fun hu => absurd hu h⟩

/-- STOP likewise, and where S is set (R599). -/
theorem State.permits_stopProcessing (s : State) : s.Permits s.stopProcessing := by
  unfold State.stopProcessing
  split
  · exact s.permits_refl
  · next h =>
    have hf : s.Permits (s.stackFrame s.pc) := s.permits_refl.stackFrame s.pc
    exact ⟨hf.toLawful.setRun .stopped, fun hu => absurd (by simp [hu]) h⟩

/-! ## The fuzzy instructions where a version has them (R470 to R478) -/

theorem State.permits_membership (s : State) : s.Permits s.membership :=
  (((s.permits_refl.write8 _ _).setY _).setX _).setCcr rfl

theorem State.Permits.consequent {s t : State} (h : s.Permits t) (a : Word) : s.Permits (t.consequent a) := by
  unfold State.consequent
  split
  · exact h.write8 a t.a
  · exact h

/-- The flags of a REV element and the PC at its prebyte. -/
theorem State.Permits.againRev {s t : State} (h : s.Permits t) : s.Permits t.again.revFlags :=
  (h.setPc _).setCcr rfl

theorem State.permits_revElement (s : State) : s.Permits s.revElement := by
  have hx : s.Permits (s.setX (s.x + 1#16)) := s.permits_refl.setX _
  unfold State.revElement
  dsimp only
  split
  · exact hx.setCcr rfl
  split
  · refine State.Permits.againRev (State.Permits.setCcr ?_ rfl)
    split
    · exact hx.setA _
    · exact hx
  split
  · exact (hx.consequent _).againRev
  · exact (hx.setA _).againRev

theorem State.Permits.revwSeparator {s t : State} (h : s.Permits t) : s.Permits t.revwSeparator := by
  unfold State.revwSeparator
  split
  · exact h.setA _
  split
  · exact (h.setA _).setY _
  · exact h

/-- The flags of a REVW element and the PC at its prebyte. -/
theorem State.Permits.againRevw {s t : State} (h : s.Permits t) : s.Permits (t.again.revwFlags false) :=
  (h.setPc _).setCcr rfl

theorem State.permits_revwElement (s : State) : s.Permits s.revwElement := by
  have hx : s.Permits (s.setX (s.x + 2#16)) := s.permits_refl.setX _
  unfold State.revwElement
  dsimp only
  split
  · exact hx.setCcr rfl
  split
  · have hv : s.Permits ((s.setX (s.x + 2#16)).revwSeparator.flags fun f => { f with v := !f.v }) :=
      hx.revwSeparator.setCcr rfl
    exact hv.againRevw
  split
  · exact (hx.consequent _).againRevw
  · exact (hx.setA _).againRevw

theorem State.permits_wavCount (s : State) : s.Permits s.wavCount := s.permits_refl.setB _

theorem State.permits_wavStep (s : State) (w : WavSums) : s.Permits (s.wavStep w) := by
  have hxy : s.Permits ((s.setX (s.x + 1#16)).setY (s.y + 1#16)) := (s.permits_refl.setX _).setY _
  unfold State.wavStep
  dsimp only [State.wavPair]
  split
  · exact ((((hxy.setY _).setD _).setX _).setWav _).setCcr rfl
  · exact ((hxy.setWav _).setPc _).setCcr rfl

theorem State.permits_wavStart (s : State) : s.Permits s.wavStart :=
  s.permits_wavCount.trans (State.permits_wavStep _ _)

theorem State.permits_wavResume (s : State) : s.Permits s.wavResume := by
  have hd : s.Permits (((s.drop 2).drop 2).drop 2) := ((s.permits_refl.drop 2).drop 2).drop 2
  unfold State.wavResume
  split
  · exact s.permits_wavCount.trans (State.permits_wavStep _ _)
  · exact hd.trans (State.permits_wavStep _ _)

theorem State.permits_wavSuspend (s : State) : s.Permits s.wavSuspend := by
  unfold State.wavSuspend
  split
  · exact s.permits_refl
  · next w _ =>
    have hw := ((s.permits_wavCount.push16 w.sow).push16 (w.sop.extractLsb' 0 16)).push16 (w.sop.extractLsb' 16 16)
    exact hw.setWav none

/-! ## The shapes of arithmetic and logic (R230 to R456) -/

section
variable (s : State)

/-- An operation on two operands computes flags other than S, X and I. -/
def Alu2.LeavesMasks {n : Nat} (f : Alu2 n) : Prop :=
  ∀ c p q, (f c p q).2.masks = c.masks

/-- An operation on one operand computes flags other than S, X and I. -/
def Alu1.LeavesMasks {n : Nat} (f : Alu1 n) : Prop :=
  ∀ c p, (f c p).2.masks = c.masks

theorem State.permits_accOp {f : Alu2 8} (hf : f.LeavesMasks) (r : Acc) (op : Src8) : s.Permits (s.accOp f r op) :=
  ((s.permits_src8 op).setAcc r _).setCcr (by rw [State.setAcc_ccr]; exact hf _ _ _)

theorem State.permits_accTest {f : Alu2 8} (hf : f.LeavesMasks) (r : Acc) (op : Src8) : s.Permits (s.accTest f r op) :=
  (s.permits_src8 op).setCcr (hf _ _ _)

theorem State.permits_wideOp {f : Alu2 16} (hf : f.LeavesMasks) (r : Wide) (op : Src16) : s.Permits (s.wideOp f r op) :=
  ((s.permits_src16 op).setWide r _).setCcr (by rw [State.setWide_ccr]; exact hf _ _ _)

theorem State.permits_wideTest {f : Alu2 16} (hf : f.LeavesMasks) (r : Wide) (op : Src16) :
    s.Permits (s.wideTest f r op) :=
  (s.permits_src16 op).setCcr (hf _ _ _)

theorem State.permits_accUnary {f : Alu1 8} (hf : f.LeavesMasks) (r : Acc) : s.Permits (s.accUnary f r) :=
  (s.permits_refl.setAcc r _).setCcr (by rw [State.setAcc_ccr]; exact hf _ _)

theorem State.permits_wideUnary {f : Alu1 16} (hf : f.LeavesMasks) (r : Wide) : s.Permits (s.wideUnary f r) :=
  (s.permits_refl.setWide r _).setCcr (by rw [State.setWide_ccr]; exact hf _ _)

theorem State.permits_byteUnary {f : Alu1 8} (hf : f.LeavesMasks) (op : ExtIdx) : s.Permits (s.byteUnary f op) :=
  ((s.permits_eaExtIdx op).write8 _ _).setCcr (by rw [State.write8_ccr]; exact hf _ _)

theorem State.permits_wordUnary {f : Alu1 16} (hf : f.LeavesMasks) (op : ExtIdx) : s.Permits (s.wordUnary f op) :=
  ((s.permits_eaExtIdx op).write16 _ _).setCcr (by rw [State.write16_ccr]; exact hf _ _)

end

/-! ## Every instruction -/

/-- The instructions that enter an exception in user state: SWI, SYS and TRAP do in every state, the fuzzy instructions
where the version has none of them (R470, R543 to R547). -/
def Instr.Enters (i : Instr) : Prop := i ∈ [.swi, .sys, .mem, .rev, .revw, .wav, .wavr] ∨ ∃ tn, i = .trap tn

/-- What is so of each of them, case by case. -/
theorem Instr.Enters.elim {P : Instr → Prop} {i : Instr} (h : Instr.Enters i) (swi : P .swi) (sys : P .sys)
    (mem : P .mem) (rev : P .rev) (revw : P .revw) (wav : P .wav) (wavr : P .wavr)
    (trap : ∀ tn, P (.trap tn)) : P i := by
  obtain hlist | ⟨tn, rfl⟩ := h
  · simp only [List.mem_cons, List.not_mem_nil, or_false] at hlist
    obtain rfl | rfl | rfl | rfl | rfl | rfl | rfl := hlist <;> assumption
  · exact trap tn

/-- Whatever state a meaning answers, `P` holds of it. -/
def Answers (P : State → Prop) (r : Result) : Prop := ∀ t, r = .next t → P t

theorem Answers.next {P : State → Prop} {t : State} (h : P t) : Answers P (.next t) := by
  rintro _ ⟨⟩
  exact h

/-- Every instruction but those that enter an exception and BGND, by the shape of its meaning. -/
theorem exec_permits (i : Instr) (s : State) (henters : ¬ Instr.Enters i) (hbgnd : i ≠ .bgnd) :
    Answers s.Permits (exec i s) := by
  cases i
  -- Those that enter an exception, and BGND.
  case swi | sys | mem | rev | revw | wav | wavr => exact absurd (.inl (by decide)) henters
  case trap tn => exact absurd (.inr ⟨tn, rfl⟩) henters
  case bgnd => exact absurd rfl hbgnd
  -- Loads, stores and effective addresses.
  case ldaa op | ldab op => exact .next (((s.permits_src8 op).setAcc _ _).setCcr rfl)
  case ldd op => exact .next (((s.permits_src16 op).setD _).setCcr rfl)
  case lds op | ldx op | ldy op => exact .next (s.permits_loadIndex _ op)
  case leas op | leax op | leay op => exact .next (s.permits_loadAddress _ op)
  case staa op | stab op => exact .next (((s.permits_ea op).write8 _ _).setCcr rfl)
  case std op | sts op | stx op | sty op => exact .next (((s.permits_ea op).write16 _ _).setCcr rfl)
  case gldaa op | gldab op => exact .next (((s.permits_ea op).setAcc _ _).setCcr rfl)
  case gldd op => exact .next (((s.permits_ea op).setD _).setCcr rfl)
  case glds op | gldx op | gldy op => exact .next (s.permits_gloadIndex _ op)
  case gstaa op | gstab op => exact .next (((s.permits_ea op).gwrite8 _ _ _).setCcr rfl)
  case gstd op | gsts op | gstx op | gsty op =>
    exact .next (((s.permits_ea op).gwrite16 _ _).setCcr rfl)
  case movb m => exact .next ((s.permits_moveAddresses m).write8 _ _)
  case movw m => exact .next ((s.permits_moveAddresses m).write16 _ _)
  -- Transfers and exchanges.
  case tfr hi src dst => exact .next (s.permits_tfr hi src dst)
  case sex hi src dst => exact .next (s.permits_sex hi src dst)
  case exg hi src dst =>
    cases hi
    · exact .next (s.permits_exchange _ _)
    · exact .next (s.permits_exchangeVariant src dst)
  case tab => exact .next ((s.permits_refl.setB _).setCcr rfl)
  case tba => exact .next ((s.permits_refl.setA _).setCcr rfl)
  case tpa => exact .next (s.permits_refl.setA _)
  case tsx => exact .next (s.permits_refl.setX _)
  case tsy => exact .next (s.permits_refl.setY _)
  case txs | tys | des | ins => exact .next (s.permits_refl.setSp _)
  case xgdx => exact .next ((s.permits_refl.setX _).setD _)
  case xgdy => exact .next ((s.permits_refl.setY _).setD _)
  -- The CCR.
  case tap | andcc mask | clc | cli | clv | orcc mask | sec | sei | sev => exact .next (s.permits_writeCcr _)
  case pulc => exact .next ((s.permits_refl.drop 1).trans (State.permits_writeCcr _ _))
  case pulcw => exact .next ((s.permits_refl.drop 2).trans (State.permits_writeCcrw _ _))
  case rti => exact .next s.permits_returnFromException
  -- Arithmetic and logic on two operands.
  case adca op | adcb op | adda op | addb op | sbca op | sbcb op | suba op | subb op | anda op | andb op | eora op |
      eorb op | oraa op | orab op =>
    exact .next (s.permits_accOp (fun _ _ _ => rfl) _ op)
  case cmpa op | cmpb op | bita op | bitb op => exact .next (s.permits_accTest (fun _ _ _ => rfl) _ op)
  case addd op | addx op | addy op | aded op | adex op | adey op | subd op | subx op | suby op | sbed op | sbex op |
      sbey op | andx op | andy op | eorx op | eory op | orx op | ory op =>
    exact .next (s.permits_wideOp (fun _ _ _ => rfl) _ op)
  case cpd op | cps op | cpx op | cpy op | cped op | cpes op | cpex op | cpey op | bitx op | bity op =>
    exact .next (s.permits_wideTest (fun _ _ _ => rfl) _ op)
  case aba | sba => exact .next ((s.permits_refl.setA _).setCcr rfl)
  case abx | aby => exact .next (s.permits_refl.setAutoReg _ _)
  case cba => exact .next (s.permits_refl.setCcr rfl)
  -- Arithmetic and logic on one operand.
  case daa | deca | decb | inca | incb | tsta | tstb | coma | comb | nega | negb | asla | aslb | asra | asrb | lsra |
      lsrb | rola | rolb | rora | rorb =>
    exact .next (s.permits_accUnary (fun _ _ => rfl) _)
  case decx | decy | incx | incy | tstx | tsty | comx | comy | negx | negy | asld | aslx | asly | asrx | asry | lsrd |
      lsrx | lsry | rolx | roly | rorx | rory =>
    exact .next (s.permits_wideUnary (fun _ _ => rfl) _)
  case dec op | inc op | com op | neg op | asl op | asr op | lsr op | rol op | ror op =>
    exact .next (s.permits_byteUnary (fun _ _ => rfl) op)
  case decw op | incw op | comw op | negw op | aslw op | asrw op | lsrw op | rolw op | rorw op =>
    exact .next (s.permits_wordUnary (fun _ _ => rfl) op)
  case dex | dey | inx | iny => exact .next ((s.permits_refl.setAutoReg _ _).setCcr rfl)
  case tst op | tstw op => exact .next ((s.permits_eaExtIdx op).setCcr rfl)
  case clr op => exact .next (((s.permits_eaExtIdx op).write8 _ _).setCcr rfl)
  case clrw op => exact .next (((s.permits_eaExtIdx op).write16 _ _).setCcr rfl)
  case clra | clrb => exact .next ((s.permits_refl.setAcc _ _).setCcr rfl)
  case clrx | clry => exact .next ((s.permits_refl.setWide _ _).setCcr rfl)
  case bclr op mask | bset op mask | btas op mask => exact .next (((s.permits_ea op).write8 _ _).setCcr rfl)
  -- Multiplication, division, minimum and maximum, tables.
  case mul => exact .next ((s.permits_refl.setD _).setCcr rfl)
  case emul | emuls => exact .next (((s.permits_refl.setY _).setD _).setCcr rfl)
  case ediv => exact .next s.permits_div32
  case edivs => exact .next s.permits_div32Signed
  case fdiv => exact .next s.permits_divFraction
  case idiv => exact .next s.permits_div16
  case idivs => exact .next s.permits_div16Signed
  case maxa op | mina op | tbl op => exact .next (((s.permits_indexed op).setA _).setCcr rfl)
  case emaxd op | emind op | etbl op => exact .next (((s.permits_indexed op).setD _).setCcr rfl)
  case maxm op | minm op => exact .next (((s.permits_indexed op).write8 _ _).setCcr (by rw [State.write8_ccr]; rfl))
  case emaxm op | eminm op => exact .next (((s.permits_indexed op).write16 _ _).setCcr (by rw [State.write16_ccr]; rfl))
  case emacs addr => exact .next (((s.permits_refl.write16 _ _).write16 _ _).setCcr rfl)
  -- Branches, jumps, calls and returns.
  case bra rel | brn rel | bcc rel | bcs rel | beq rel | bne rel | bmi rel | bpl rel | bvc rel | bvs rel | bhi rel |
      bhs rel | blo rel | bls rel | bge rel | bgt rel | ble rel | blt rel | lbra rel | lbrn rel | lbcc rel | lbcs rel |
      lbeq rel | lbne rel | lbmi rel | lbpl rel | lbvc rel | lbvs rel | lbhi rel | lbhs rel | lblo rel | lbls rel |
      lbge rel | lbgt rel | lble rel | lblt rel =>
    exact .next (s.permits_refl.branchIf _ _)
  case brclr op mask rel | brset op mask rel => exact .next ((s.permits_ea op).branchIf _ _)
  case dbeq r off | dbne r off | tbeq r off | tbne r off | ibeq r off | ibne r off =>
    exact .next (s.permits_loop r _ _ off)
  case jmp op => exact .next ((s.permits_eaExtIdx op).jump _)
  case bsr rel => exact .next ((s.permits_refl.push16 _).jump _)
  case jsr op => exact .next (((s.permits_ea op).push16 _).jump _)
  case call op => exact .next (s.permits_callSubroutine op)
  case rts => exact .next ((s.permits_refl.drop 2).jump _)
  case rtc => exact .next ((((s.permits_refl.drop 1).setPpage _).drop 2).jump _)
  -- The stack, and what is left.
  case psha | pshb | pshc => exact .next (s.permits_refl.push8 _)
  case pshd | pshx | pshy | pshcw => exact .next (s.permits_refl.push16 _)
  case pula => exact .next ((s.permits_refl.drop 1).setA _)
  case pulb => exact .next ((s.permits_refl.drop 1).setB _)
  case puld => exact .next ((s.permits_refl.drop 2).setD _)
  case pulx => exact .next ((s.permits_refl.drop 2).setX _)
  case puly => exact .next ((s.permits_refl.drop 2).setY _)
  case nop => exact .next s.permits_refl
  case wai => exact .next s.permits_waitForInterrupt
  case stop => exact .next s.permits_stopProcessing

/-! ## Entering an exception (R621, R640 to R643) -/

/-- No entry sets a level on CPU12. -/
theorem entryIpl_cpu12 (old : BitVec 3) (kind : EntryKind) : entryIpl false old kind = old := by cases kind <;> rfl

/-- Only the entry to an XIRQ raises X (R641). -/
theorem xirq_of_entryX {kind : EntryKind} (h : entryX false kind = true) : ∃ level, kind = .xirq level := by
  cases kind
  case xirq level => exact ⟨level, rfl⟩
  all_goals cases h

/-- Every entry keeps the invariant: it clears U, and sets a level only where there is one. -/
theorem State.sound_startHandler (s : State) (kind : EntryKind) (p : Word) : s.Sound (s.startHandler kind p) := by
  refine ⟨by simp, fun ⟨hmem, hu, hipl⟩ => ⟨by simpa using hmem, fun h => ?_, fun h => ?_⟩⟩ <;>
    rw [State.startHandler_cfg] at h <;> rw [State.startHandler_ccrh, entryCcrh_eq]
  · simp [hu h]
  · rw [h, entryIpl_cpu12]
    exact hipl h

theorem State.sound_enter (s : State) (vec : Byte) (rtn : Word) (kind : EntryKind) : s.Sound (s.enter vec rtn kind) :=
  (s.permits_refl.stackFrame rtn).toSound.trans (State.sound_startHandler _ kind _)

theorem State.sound_enterStacked (s : State) (vec : Byte) (kind : EntryKind) : s.Sound (s.enterStacked vec kind) :=
  s.sound_startHandler kind _

theorem State.sound_reenter (s : State) (vec : Byte) (kind : EntryKind) : s.Sound (s.reenter vec kind) :=
  (s.permits_refl.setSp _).toSound.trans (State.sound_startHandler _ kind _)

/-- The X an entry leaves, by each of its three forms. -/
theorem State.enter_x (s : State) (vec : Byte) (rtn : Word) (kind : EntryKind) :
    (s.enter vec rtn kind).ccr.x = entryX s.ccr.x kind := by
  simp [State.enter, entryCcr_eq]

theorem State.enterStacked_x (s : State) (vec : Byte) (kind : EntryKind) :
    (s.enterStacked vec kind).ccr.x = entryX s.ccr.x kind := by
  simp [State.enterStacked, entryCcr_eq]

theorem State.reenter_x (s : State) (vec : Byte) (kind : EntryKind) :
    (s.reenter vec kind).ccr.x = entryX s.ccr.x kind := by
  simp [State.reenter, entryCcr_eq]

/-- An entry by an instruction, which is never an XIRQ. -/
theorem State.lawful_enter_software (s : State) (vec : Byte) (rtn : Word) : s.Lawful (s.enter vec rtn .software) :=
  ⟨s.sound_enter vec rtn .software, fun h => (s.enter_x vec rtn .software).trans h⟩

theorem State.lawful_systemCall (s : State) : s.Lawful s.systemCall := by
  unfold State.systemCall State.trap
  split <;> exact s.lawful_enter_software _ _

theorem State.lawful_fuzzy {s : State} {f : State → State} (h : s.Permits (f s)) : s.Lawful (s.fuzzy f) := by
  unfold State.fuzzy
  split
  · exact h.toLawful
  · exact s.lawful_enter_software _ _

theorem State.lawful_background (s : State) : s.Lawful s.background := by
  unfold State.background
  split
  · exact s.permits_refl.toLawful.setRun .bdm
  · exact s.permits_refl.toLawful

/-- Every instruction keeps the parameters and the invariant, and does not raise X (R28). -/
theorem exec_lawful (i : Instr) (s : State) : Answers s.Lawful (exec i s) := by
  by_cases hbgnd : i = .bgnd
  · subst hbgnd
    exact .next s.lawful_background
  by_cases henters : Instr.Enters i
  · apply henters.elim (P := fun i => Answers s.Lawful (exec i s))
    case swi => exact .next (s.lawful_enter_software _ _)
    case sys => exact .next s.lawful_systemCall
    case mem => exact .next (State.lawful_fuzzy s.permits_membership)
    case rev => exact .next (State.lawful_fuzzy s.permits_revElement)
    case revw => exact .next (State.lawful_fuzzy s.permits_revwElement)
    case wav => exact .next (State.lawful_fuzzy s.permits_wavStart)
    case wavr => exact .next (State.lawful_fuzzy s.permits_wavResume)
    case trap => exact fun _ => .next (s.lawful_enter_software _ _)
  · exact fun t h => (exec_permits i s henters hbgnd t h).toLawful

/-- Only a version that has user state is ever in it (R37). -/
theorem State.hasUser_of_userState {s : State} (h : s.userState = true) : s.cfg.version.hasUser = true := by
  obtain ⟨huser, -⟩ := Bool.and_eq_true_iff.mp h
  exact huser

/-- The version with user state has no fuzzy instructions (R2, R8). -/
theorem Version.hasFuzzy_of_hasUser {v : Version} (h : v.hasUser = true) : v.hasFuzzy = false := by
  cases v
  case cpu12xv2 => rfl
  all_goals cases h

/-- In user state a fuzzy instruction is the unimplemented opcode trap (R470). -/
theorem State.fuzzy_of_userState {s : State} (h : s.userState = true) (f : State → State) : s.fuzzy f = s.trap := by
  simp [State.fuzzy, Version.hasFuzzy_of_hasUser (State.hasUser_of_userState h)]

/-- In user state the instructions that may enter an exception do, as software (R470, R543 to R547). -/
theorem exec_of_enters {i : Instr} {s : State} (hu : s.userState = true) (h : Instr.Enters i) :
    ∃ vec, exec i s = .next (s.enter vec s.pc .software) := by
  have hfuzzy : ∀ f, ∃ vec, (.next (s.fuzzy f) : Result) = .next (s.enter vec s.pc .software) := fun f =>
    ⟨0xF8#8, by rw [State.fuzzy_of_userState hu, State.trap]⟩
  apply h.elim (P := fun i => ∃ vec, exec i s = .next (s.enter vec s.pc .software))
  case swi => exact ⟨0xF6#8, rfl⟩
  case sys =>
    cases hsys : s.cfg.version.hasSYS
    · exact ⟨0xF8#8, congrArg Host.Outcome.next (by simp [State.systemCall, State.trap, hsys])⟩
    · exact ⟨0x12#8, congrArg Host.Outcome.next (by simp [State.systemCall, hsys])⟩
  case mem | rev | revw | wav | wavr => exact hfuzzy _
  case trap => exact fun _ => ⟨0xF8#8, rfl⟩

/-! ## The step (R651) -/

theorem State.permits_begin (s : State) : s.Permits s.begin := State.permits_regs rfl rfl

theorem State.permits_setIDelay (s : State) (v : Bool) : s.Permits (s.setIDelay v) := State.permits_regs rfl rfl

theorem State.permits_setRtiFrame (s : State) (v : Bool) : s.Permits (s.setRtiFrame v) := State.permits_regs rfl rfl

theorem State.permits_ready (s : State) : s.Permits s.ready :=
  (s.permits_begin.trans (State.permits_setIDelay _ false)).trans (State.permits_setRtiFrame _ false)

theorem State.sound_resetSequence (s : State) (kind : ResetKind) : s.Sound (s.resetSequence kind) := by
  obtain ⟨hcfg, hmem, -, -, -, -, -, -, hccrh, -⟩ := s.resetSequence_fields kind
  exact ⟨hcfg, fun ⟨hwf, _, _⟩ => ⟨by rwa [hmem], fun _ => by rw [hccrh], fun _ => by rw [hccrh]⟩⟩

theorem State.lawful_force (s : State) (f : Forced) : s.Lawful (s.force f) := by
  cases f
  case swi => exact s.permits_wavSuspend.toLawful.trans (State.lawful_enter_software _ _ _)
  case bgnd => exact s.lawful_background

theorem State.sound_enterRequest (s : State) (r : Request) : s.Sound (s.enterRequest r) := by
  unfold State.enterRequest
  split
  · exact s.sound_reenter r.vec r.kind
  · exact s.permits_wavSuspend.toSound.trans (State.sound_enter _ r.vec s.pc r.kind)

theorem State.wavSuspend_x (s : State) : s.wavSuspend.ccr.x = s.ccr.x := by
  unfold State.wavSuspend State.wavCount
  split <;> simp

theorem State.enterRequest_x (s : State) (r : Request) : (s.enterRequest r).ccr.x = entryX s.ccr.x r.kind := by
  unfold State.enterRequest
  split
  · exact s.reenter_x r.vec r.kind
  · rw [State.enter_x, State.wavSuspend_x]

/-- Waking: a recognised request is entered, or SP and the run state alone change. -/
theorem State.wake_cases (s : State) (env : Env) :
    (∃ r, s.recognised env = some r ∧ s.wake env = s.enterStacked r.vec r.kind) ∨ s.Lawful (s.wake env) := by
  unfold State.wake
  cases hr : s.recognised env with
  | some r => exact .inl ⟨r, rfl, rfl⟩
  | none =>
    refine .inr ?_
    dsimp only
    split
    · exact (s.permits_refl.drop s.frameSize).toLawful.setRun .running
    · exact s.permits_refl.toLawful

theorem State.lawful_resume (s : State) (resume : Bool) : s.Lawful (if resume then s.setRun .running else s) := by
  split
  · exact s.permits_refl.toLawful.setRun .running
  · exact s.permits_refl.toLawful

/-- What a step does: a reset, an entry to a recognised request, which leaves X as that entry does, or what an
instruction may do. -/
theorem step_lawful_or {s t : State} (h : step s = .next t) :
    s.Lawful t ∨ s.Sound t ∧
      (s.env.reset ≠ none ∨ ∃ r, s.begin.recognised s.env = some r ∧ t.ccr.x = entryX s.ccr.x r.kind) := by
  have hbegin : s.Lawful s.begin := s.permits_begin.toLawful
  obtain ⟨kind, hreset, rfl⟩ | ⟨-, ⟨-, rfl⟩ | ⟨-, rfl⟩ | ⟨-, ⟨r, hr, rfl⟩ | ⟨-, ⟨f, -, rfl⟩ |
    ⟨-, i, rest, -, hexec⟩⟩⟩⟩ := step_cases h
  case inl => exact .inr ⟨hbegin.toSound.trans (State.sound_resetSequence _ kind), .inl (by simp [hreset])⟩
  case inr.inl => exact .inl (hbegin.trans (State.lawful_resume _ _))
  case inr.inr.inl =>
    obtain ⟨r, hr, hw⟩ | hlawful := s.begin.wake_cases s.env
    · rw [hw]
      exact .inr ⟨hbegin.toSound.trans (State.sound_enterStacked _ r.vec r.kind),
        .inr ⟨r, hr, State.enterStacked_x _ r.vec r.kind⟩⟩
    · exact .inl (hbegin.trans hlawful)
  case inr.inr.inr.inl =>
    have hdelay : s.Sound (s.begin.setIDelay false) := hbegin.toSound.trans (State.permits_setIDelay _ _).toSound
    have henter : s.Sound ((s.begin.setIDelay false).enterRequest r) := hdelay.trans (State.sound_enterRequest _ r)
    exact .inr ⟨henter.trans (State.permits_setRtiFrame _ false).toSound, .inr ⟨r, hr, State.enterRequest_x _ r⟩⟩
  case inr.inr.inr.inr.inl => exact .inl (s.permits_ready.toLawful.trans (State.lawful_force _ f))
  case inr.inr.inr.inr.inr =>
    exact .inl ((s.permits_ready.setPc _).toLawful.trans (exec_lawful i _ t hexec))

/-! ## The statements -/

/-- Settles O13: what an instruction may do is sound, and so are a reset and every entry. -/
theorem stepKeepsInvariant : Obligations.StepKeepsInvariant := by
  intro s t hinv h
  have hsound : s.Sound t := (step_lawful_or h).elim (·.toSound) (·.1)
  exact ⟨hsound.inv hinv, hsound.cfg⟩

/-- Settles O16: in user state an instruction that enters an exception is an entry by software, and any other but BGND
leaves the control bits and the run state. -/
theorem userStateKeepsControlBits : Obligations.UserStateKeepsControlBits := by
  intro i s t hu h enters
  refine ⟨fun hnot => ?_, fun henters => ?_⟩
  · by_cases hbgnd : i = .bgnd
    · subst hbgnd
      obtain rfl : s.background = t := by injection h
      unfold State.background
      split
      · exact ⟨rfl, rfl, .inr rfl⟩
      · exact ⟨rfl, rfl, .inl rfl⟩
    · obtain ⟨-, hmasks, hccrh, hrun⟩ := State.control_eq_iff.mp ((exec_permits i s hnot hbgnd t h).user hu)
      exact ⟨hmasks, hccrh, .inl hrun⟩
  · have huser : s.cfg.version.hasUser = true := State.hasUser_of_userState hu
    obtain ⟨vec, hexec⟩ := exec_of_enters hu henters
    obtain rfl : s.enter vec s.pc .software = t := by
      rw [hexec] at h
      injection h
    simp [State.enter, entryCcr, entryCcrh, huser]

/-- A CCR write outside user state leaves X anded with the bit offered (R28, R200). -/
theorem State.writeCcr_x_of_privileged {s : State} (h : s.userState = false) (v : Byte) :
    (s.writeCcr v).ccr.x = (s.ccr.x && v.getLsbD 6) := by
  rw [State.writeCcr_ccr, h]
  rfl

theorem State.writeCcrw_x_of_privileged {s : State} (h : s.userState = false) (w : Word) :
    (s.writeCcrw w).ccr.x = (s.ccr.x && (loByte w).getLsbD 6) := by
  rw [State.writeCcrw_ccr, h]
  rfl

/-- X is bit 6 of the CCR byte (R25). -/
theorem State.ccrByte_x (s : State) : s.ccrByte.getLsbD 6 = s.ccr.x := by
  simp only [State.ccrByte, Ccr.toByte, BitVec.getLsbD_append]
  simp

/-- With X set no XIRQ is recognised (R29, R626). -/
theorem State.recognised_ne_xirq {s : State} (h : s.ccr.x = true) (env : Env) (vec : Byte) (level : BitVec 3) :
    s.recognised env ≠ some { vec := vec, kind := .xirq level } := by
  simp only [State.recognised, h, Bool.not_true, Bool.and_false, Bool.false_eq_true, if_false]
  split
  · simp
  split
  · split <;> simp
  · simp

/-- A step raises X only by a reset or by entering an XIRQ (R28, R641). -/
theorem step_raises_x {s t : State} (h : step s = .next t) (hs : s.ccr.x = false) (ht : t.ccr.x = true) :
    s.env.reset ≠ none ∨ ∃ vec level, s.begin.recognised s.env = some { vec := vec, kind := .xirq level } := by
  obtain hlawful | ⟨-, hreset | ⟨⟨vec, kind⟩, hr, hx⟩⟩ := step_lawful_or h
  · exact absurd (hlawful.xmask hs) (by simp [ht])
  · exact .inl hreset
  · obtain ⟨level, rfl⟩ : ∃ level, kind = .xirq level := xirq_of_entryX (by rw [← hs, ← hx, ht])
    exact .inr ⟨vec, level, hr⟩

/-- RTI outside user state leaves X anded with the bit of the stacked CCR (R541). -/
theorem State.returnFromException_x {s : State} (h : s.userState = false) :
    s.returnFromException.ccr.x =
      (s.ccr.x && (s.read8 (if s.cfg.version.isX then s.sp + 1 else s.sp)).getLsbD 6) := by
  obtain ⟨hccr, -⟩ := s.returnFromException_spec
  rw [hccr]
  split
  · rw [State.writeCcrw_x_of_privileged h, State.read16, loByte_join]
    rfl
  · rw [State.writeCcr_x_of_privileged h]

/-- Settles O15: X through every instruction by `exec_lawful`, through every step by `step_raises_x`, and through each
writer of the CCR by the write path it takes. -/
theorem xirqMaskRisesOnlyByXirqOrReset : Obligations.XirqMaskRisesOnlyByXirqOrReset := by
  refine ⟨rfl, fun i s t h => (exec_lawful i s t h).xmask, fun s t => step_raises_x,
    fun s env vec level hx => State.recognised_ne_xirq hx env vec level, fun s t hu => ⟨?_, ?_, ?_, ?_, ?_⟩⟩
  case refine_1 =>
    simp only [List.forall_mem_cons, List.not_mem_nil, false_implies, implies_true, and_true]
    refine ⟨?tap, ?tfr, ?exg, ?pulc⟩
    all_goals
      rintro ⟨⟩
    case tap => exact State.writeCcr_x_of_privileged hu s.a
    case tfr => exact State.writeCcr_x_of_privileged hu s.b
    case exg => exact State.writeCcr_x_of_privileged hu s.a
    case pulc => exact State.writeCcr_x_of_privileged (s := s.drop 1) hu s.top8
  case refine_2 =>
    rintro ⟨⟩
    have hx := State.writeCcrw_x_of_privileged (s := s.drop 2) hu s.top16
    rwa [State.top16, State.read16, loByte_join] at hx
  case refine_3 =>
    rintro mask ⟨⟩
    refine (State.writeCcr_x_of_privileged hu _).trans ?_
    rw [BitVec.getLsbD_or, State.ccrByte_x]
    cases s.ccr.x <;> rfl
  case refine_4 =>
    rintro mask ⟨⟩
    refine (State.writeCcr_x_of_privileged hu _).trans ?_
    rw [BitVec.getLsbD_and, State.ccrByte_x]
    cases s.ccr.x <;> rfl
  case refine_5 =>
    rintro ⟨⟩
    exact State.returnFromException_x hu

end Sys2Proof.Machine
end

section
/-!
SUPPORT. The decoder reads what the encoder writes (30_encoding.md sections 1 to 7): each parser as a sequence of parts,
what each part reads, and the entry of the opcode maps that each instruction's bytes open.
-/

namespace Sys2Proof.Machine

/-! ## Reading the parts of an instruction (R92, R101 to R110) -/

/-- `take` reads `a` from the bytes `bytes`, whatever follows them, and leaves what follows. -/
def Reads {α : Type} (take : List Byte → Taken α) (bytes : List Byte) (a : α) : Prop :=
  ∀ rest, take (bytes ++ rest) = .ok (a, rest)

theorem reads_takeByte (b : Byte) : Reads takeByte [b] b := fun _ => rfl

theorem reads_takeWord (w : Word) : Reads takeWord (wordBytes w) w := fun rest =>
  congrArg (fun u => Except.ok (u, rest)) (joinBytes_hi_lo w)

/-- One part after another: `take`, and what it gives decides how the bytes after it are read. -/
def andThen {α β : Type} (take : List Byte → Taken α) (next : α → List Byte → Taken β) (bs : List Byte) : Taken β :=
  (take bs).bind fun x => next x.1 x.2

/-- A part, and what is made of it. -/
def andMake {α β : Type} (take : List Byte → Taken α) (f : α → β) : List Byte → Taken β :=
  andThen take fun a bs => .ok (f a, bs)

theorem Reads.andThen {α β : Type} {take : List Byte → Taken α} {next : α → List Byte → Taken β}
    {front back : List Byte} {a : α} {b : β} (h : Reads take front a) (hn : Reads (next a) back b) :
    Reads (andThen take next) (front ++ back) b := by
  intro rest
  rw [Machine.andThen, List.append_assoc, h]
  exact hn rest

theorem Reads.andMake {α β : Type} {take : List Byte → Taken α} {bytes : List Byte} {a : α} (h : Reads take bytes a)
    (f : α → β) : Reads (andMake take f) bytes (f a) := by
  intro rest
  rw [Machine.andMake, Machine.andThen, h]
  rfl

/-! ## The parsers as sequences of parts (R93, R96 to R99) -/

theorem takeForm_eq (accepts : Indexed → Bool) :
    takeForm accepts = andThen takeIndexed fun xb bs => if accepts xb then .ok (xb, bs) else .error .indexedForm := rfl

theorem pByte_eq (f : Byte → Instr) : pByte f = andMake takeByte f := rfl

theorem pWord_eq (f : Word → Instr) : pWord f = andMake takeWord f := rfl

theorem pIdx_eq (accepts : Indexed → Bool) (f : Indexed → Instr) : pIdx accepts f = andMake (takeForm accepts) f := rfl

theorem thenMask_eq (take : List Byte → Taken DirExtIdx) (f : DirExtIdx → Byte → Instr) :
    thenMask take f = andThen take fun m => andMake takeByte (f m) := rfl

theorem thenMaskRel_eq (take : List Byte → Taken DirExtIdx) (f : DirExtIdx → Byte → Byte → Instr) :
    thenMaskRel take f = andThen take fun m => andThen takeByte fun mask => andMake takeByte (f m mask) := rfl

theorem takeDir_eq : takeDir = andMake takeByte .dir := rfl

theorem takeExt_eq : takeExt = andMake takeWord .ext := rfl

theorem takeIdx_eq : takeIdx = andMake (takeForm Indexed.isDirect) .idx := rfl

theorem pMoveImmIdx_eq {α : Type} (v : Version) (imm : List Byte → Taken α) (f : Move α → Instr) :
    pMoveImmIdx v imm f = andThen (takeForm (moveForm v)) fun d => andMake imm fun k => f (.immIdx k d) := rfl

theorem pMoveExtIdx_eq {α : Type} (v : Version) (f : Move α → Instr) :
    pMoveExtIdx v f = andThen (takeForm (moveForm v)) fun d => andMake takeWord fun s => f (.extIdx s d) := rfl

theorem pMoveIdxIdx_eq {α : Type} (v : Version) (f : Move α → Instr) :
    pMoveIdxIdx v f =
      andThen (takeForm (moveForm v)) fun s => andMake (takeForm (moveForm v)) fun d => f (.idxIdx s d) := rfl

theorem pMoveImmExt_eq {α : Type} (imm : List Byte → Taken α) (f : Move α → Instr) :
    pMoveImmExt imm f = andThen imm fun k => andMake takeWord fun d => f (.immExt k d) := rfl

theorem pMoveExtExt_eq {α : Type} (f : Move α → Instr) :
    pMoveExtExt f = andThen takeWord fun s => andMake takeWord fun d => f (.extExt s d) := rfl

theorem pMoveIdxExt_eq {α : Type} (v : Version) (f : Move α → Instr) :
    pMoveIdxExt v f = andThen (takeForm (moveForm v)) fun s => andMake takeWord fun d => f (.idxExt s d) := rfl

theorem pCallExt_eq : pCallExt = andThen takeWord fun a => andMake takeByte fun pg => .call (.ext a pg) := rfl

theorem pCallIdx_eq :
    pCallIdx = andThen takeIndexed fun xb bs =>
      if xb.isDirect then andMake takeByte (fun pg => .call (.idx xb pg)) bs else .ok (.call (.ind xb), bs) := rfl

/-- What the transfer postbyte names (R120, R121). -/
def transferOf (v : Version) (eb : Byte) : Instr :=
  let hi := eb.getLsbD 3 && v.isX
  let src := xregOf (eb.extractLsb' 4 3)
  let dst := xregOf (eb.extractLsb' 0 3)
  if eb.getLsbD 7 then exchangeInstr hi src dst else transferInstr hi src dst

theorem pTransfer_eq (v : Version) :
    pTransfer v = andThen takeByte fun eb bs =>
      if eb.getLsbD 3 && v == .cpu12v1 then .error .transferBit3 else .ok (transferOf v eb, bs) := by
  funext bs
  cases bs with
  | nil => rfl
  | cons eb bs =>
    simp only [pTransfer, andThen, takeByte, bind, Except.bind]
    split <;> rfl

/-- What the loop postbyte names (R125, R126). -/
def loopOf (lb rr : Byte) : Option Instr :=
  (loopRegOf (lb.extractLsb' 0 3)).bind fun r => loopInstrOf (lb.extractLsb' 5 3) r (lb.extractLsb' 4 1 ++ rr)

theorem pLoop_eq :
    pLoop = andThen takeByte fun lb => andThen takeByte fun rr bs =>
      match loopOf lb rr with
      | none => .error .loopPostbyte
      | some i => .ok (i, bs) := by
  funext bs
  match bs with
  | [] => rfl
  | [_] => rfl
  | lb :: rr :: bs =>
    simp only [pLoop, andThen, takeByte, bind, Except.bind, loopOf, Option.bind]
    cases loopRegOf (lb.extractLsb' 0 3) with
    | none => rfl
    | some r => cases loopInstrOf (lb.extractLsb' 5 3) r (lb.extractLsb' 4 1 ++ rr) <;> rfl

theorem pPage2_eq (v : Version) :
    pPage2 v = andThen takeByte fun tn bs =>
      match mapEntry (if v.isX then page2X v else page2Cpu12 v) tn with
      | some p => p bs
      | none => .ok (.trap tn, bs) := rfl

theorem decode_eq (v : Version) :
    decode v = andThen takeByte fun op bs =>
      match mapEntry (page1 v) op with
      | some p => p bs
      | none => .error .truncated := rfl

/-! ## The indexed operand (R101 to R112) -/

theorem idxRegOf_code (r : IdxReg) : idxRegOf r.code = r := by cases r <;> rfl

/-- The fields of an indexed postbyte: `rr`, the bit that tells a 5-bit offset, the rest (R101, R102). -/
theorem postbyte_fields (r : BitVec 2) (t : BitVec 1) (n : BitVec 5) :
    (r ++ t ++ n : Byte).extractLsb' 6 2 = r ∧ (r ++ t ++ n : Byte).getLsbD 5 = t.getLsbD 0 ∧
      (r ++ t ++ n : Byte).extractLsb' 0 5 = n := by
  decide +revert

theorem postbyte_auto_fields (r : BitVec 2) (p : Bool) (n : BitVec 4) :
    (r ++ 1#1 ++ BitVec.ofBool p ++ n : Byte).extractLsb' 6 2 = r ∧
      (r ++ 1#1 ++ BitVec.ofBool p ++ n : Byte).getLsbD 5 = true ∧
      (r ++ 1#1 ++ BitVec.ofBool p ++ n : Byte).getLsbD 4 = p ∧
      (r ++ 1#1 ++ BitVec.ofBool p ++ n : Byte).extractLsb' 0 4 = n := by
  decide +revert

/-- The fields of a postbyte `111rrfff`: the base register and the form (R103 to R107). -/
theorem postbyte_form_fields (r : BitVec 2) (f : BitVec 3) :
    (7#3 ++ r ++ f : Byte).extractLsb' 6 2 = 3#2 ∧ (7#3 ++ r ++ f : Byte).getLsbD 5 = true ∧
      (7#3 ++ r ++ f : Byte).extractLsb' 3 2 = r ∧ (7#3 ++ r ++ f : Byte).extractLsb' 0 3 = f ∧
      (7#3 ++ r ++ f : Byte).extractLsb' 0 1 = f.extractLsb' 0 1 := by
  decide +revert

/-- The form of a postbyte `111rrfff`, whether it is written as one field or as two. -/
theorem postbyte_form_split (r a : BitVec 2) (t : BitVec 1) :
    (7#3 ++ r ++ t ++ a : Byte) = 7#3 ++ r ++ (t ++ a) ∧ (7#3 ++ r ++ a ++ t : Byte) = 7#3 ++ r ++ (a ++ t) := by
  decide +revert

/-- The top bit and the low byte of a 9-bit offset (R104, R125). -/
theorem offset9_split (n : BitVec 9) : (n.extractLsb' 8 1 ++ n.extractLsb' 0 8 : BitVec 9) = n := by
  rw [BitVec.extractLsb'_append_extractLsb'_eq_extractLsb' (by rfl), BitVec.extractLsb'_eq_self]

/-- A 5-bit offset (R101). -/
theorem takeIndexed_off5 (r : BitVec 2) (n : BitVec 5) (bs : List Byte) :
    takeIndexed ((r ++ 0#1 ++ n : Byte) :: bs) = .ok (.off5 (idxRegOf r) n, bs) := by
  obtain ⟨htop, hfive, hn⟩ := postbyte_fields r 0#1 n
  simp only [takeIndexed, takeByte, bind, Except.bind, htop, hfive, hn]
  rfl

/-- An auto increment or decrement (R102). -/
theorem takeIndexed_auto (r : AutoReg) (p : Bool) (n : BitVec 4) (bs : List Byte) :
    takeIndexed ((r.code ++ 1#1 ++ BitVec.ofBool p ++ n : Byte) :: bs) = .ok (.auto r p n, bs) := by
  obtain ⟨htop, hfive, hpost, hn⟩ := postbyte_auto_fields r.code p n
  simp only [takeIndexed, takeByte, bind, Except.bind, htop, hfive, hpost, hn]
  cases r <;> rfl

/-- The operand of a postbyte `111rrfff` and the bytes after it (R103 to R107). -/
def takeFormBytes (r : IdxReg) (f : BitVec 3) (bs : List Byte) : Taken Indexed :=
  if f = 4#3 then .ok (.acc r .a, bs)
  else if f = 5#3 then .ok (.acc r .b, bs)
  else if f = 6#3 then .ok (.acc r .d, bs)
  else if f = 7#3 then .ok (.indD r, bs)
  else if f = 2#3 then andMake takeWord (.off16 r) bs
  else if f = 3#3 then andMake takeWord (.ind16 r) bs
  else andMake takeByte (fun ff => .off9 r (f.extractLsb' 0 1 ++ ff)) bs

theorem takeIndexed_form (r : BitVec 2) (f : BitVec 3) (bs : List Byte) :
    takeIndexed ((7#3 ++ r ++ f : Byte) :: bs) = takeFormBytes (idxRegOf r) f bs := by
  obtain ⟨htop, hfive, hreg, hform, hlow⟩ := postbyte_form_fields r f
  simp only [takeIndexed, takeByte, bind, Except.bind, htop, hfive, hreg, hform, hlow]
  rfl

/-- A 9-bit offset (R104). -/
theorem takeIndexed_off9 (r : BitVec 2) (t : BitVec 1) (ff : Byte) (bs : List Byte) :
    takeIndexed ((7#3 ++ r ++ 0#2 ++ t : Byte) :: ff :: bs) = .ok (.off9 (idxRegOf r) (t ++ ff), bs) := by
  rw [(postbyte_form_split r 0#2 t).2, takeIndexed_form]
  have hform : ∀ t : BitVec 1, (0#2 ++ t : BitVec 3) = 0#3 ∨ (0#2 ++ t : BitVec 3) = 1#3 := by decide
  have hlow : (0#2 ++ t : BitVec 3).extractLsb' 0 1 = t := by decide +revert
  rw [← hlow]
  obtain h | h := hform t
  · rw [h]; rfl
  · rw [h]; rfl

/-- The bytes of an indexed operand read back (R110). -/
theorem reads_takeIndexed (xb : Indexed) : Reads takeIndexed xb.bytes xb := by
  intro rest
  cases xb with
  | off5 r n =>
    have h := takeIndexed_off5 r.code n rest
    rwa [idxRegOf_code] at h
  | auto r post n => exact takeIndexed_auto r post n rest
  | acc r o =>
    have h := takeIndexed_form r.code (1#1 ++ o.code) rest
    rw [idxRegOf_code, ← (postbyte_form_split r.code o.code 1#1).1] at h
    cases o <;> exact h
  | off9 r n =>
    have h := takeIndexed_off9 r.code (n.extractLsb' 8 1) (n.extractLsb' 0 8) rest
    rwa [idxRegOf_code, offset9_split] at h
  | off16 r n =>
    refine (takeIndexed_form r.code 2#3 (wordBytes n ++ rest)).trans ?_
    rw [idxRegOf_code]
    exact (reads_takeWord n).andMake (Indexed.off16 r) rest
  | ind16 r n =>
    refine (takeIndexed_form r.code 3#3 (wordBytes n ++ rest)).trans ?_
    rw [idxRegOf_code]
    exact (reads_takeWord n).andMake (Indexed.ind16 r) rest
  | indD r =>
    refine (takeIndexed_form r.code 7#3 rest).trans ?_
    rw [idxRegOf_code]
    rfl

/-- A form the instruction accepts is read, any other refused by name (R112). -/
theorem takeForm_bytes (accepts : Indexed → Bool) (xb : Indexed) (rest : List Byte) :
    takeForm accepts (xb.bytes ++ rest) = if accepts xb then .ok (xb, rest) else .error .indexedForm := by
  simp only [takeForm, bind, Except.bind, reads_takeIndexed xb rest]
  rfl

theorem reads_takeForm {accepts : Indexed → Bool} {xb : Indexed} (h : accepts xb = true) :
    Reads (takeForm accepts) xb.bytes xb := fun rest => by rw [takeForm_bytes, if_pos h]

/-! ## Reading the operands after an opcode (R93, R96 to R99) -/

theorem reads_pInh (i : Instr) : Reads (pInh i) [] i := fun _ => rfl

theorem reads_pByte (f : Byte → Instr) (b : Byte) : Reads (pByte f) [b] (f b) := by
  rw [pByte_eq]
  exact (reads_takeByte b).andMake f

theorem reads_pWord (f : Word → Instr) (w : Word) : Reads (pWord f) (wordBytes w) (f w) := by
  rw [pWord_eq]
  exact (reads_takeWord w).andMake f

theorem reads_pIdx {accepts : Indexed → Bool} {xb : Indexed} (f : Indexed → Instr) (h : accepts xb = true) :
    Reads (pIdx accepts f) xb.bytes (f xb) := by
  rw [pIdx_eq]
  exact (reads_takeForm h).andMake f

theorem reads_takeDir (a : Byte) : Reads takeDir [a] (.dir a) := by
  rw [takeDir_eq]
  exact (reads_takeByte a).andMake DirExtIdx.dir

theorem reads_takeExt (a : Word) : Reads takeExt (wordBytes a) (.ext a) := by
  rw [takeExt_eq]
  exact (reads_takeWord a).andMake DirExtIdx.ext

theorem reads_takeIdx {xb : Indexed} (h : xb.isDirect = true) : Reads takeIdx xb.bytes (.idx xb) := by
  rw [takeIdx_eq]
  exact (reads_takeForm h).andMake DirExtIdx.idx

theorem Reads.thenMask {take : List Byte → Taken DirExtIdx} {bytes : List Byte} {m : DirExtIdx} (h : Reads take bytes m)
    (f : DirExtIdx → Byte → Instr) (mask : Byte) : Reads (thenMask take f) (bytes ++ [mask]) (f m mask) := by
  rw [thenMask_eq]
  exact h.andThen ((reads_takeByte mask).andMake (f m))

theorem Reads.thenMaskRel {take : List Byte → Taken DirExtIdx} {bytes : List Byte} {m : DirExtIdx}
    (h : Reads take bytes m) (f : DirExtIdx → Byte → Byte → Instr) (mask rel : Byte) :
    Reads (thenMaskRel take f) (bytes ++ [mask, rel]) (f m mask rel) := by
  rw [thenMaskRel_eq]
  exact h.andThen ((reads_takeByte mask).andThen (back := [rel]) ((reads_takeByte rel).andMake (f m mask)))

theorem xregOf_code (r : XReg) : xregOf r.code = r := by cases r <;> rfl

/-- The fields of a transfer postbyte (R120). -/
theorem ebByte_fields (x hi : Bool) (src dst : XReg) :
    (ebByte x hi src dst).getLsbD 7 = x ∧ (ebByte x hi src dst).getLsbD 3 = hi ∧
      xregOf ((ebByte x hi src dst).extractLsb' 4 3) = src ∧ xregOf ((ebByte x hi src dst).extractLsb' 0 3) = dst := by
  have hfields : ∀ (x hi : Bool) (m n : BitVec 3),
      (BitVec.ofBool x ++ m ++ BitVec.ofBool hi ++ n : Byte).getLsbD 7 = x ∧
        (BitVec.ofBool x ++ m ++ BitVec.ofBool hi ++ n : Byte).getLsbD 3 = hi ∧
        (BitVec.ofBool x ++ m ++ BitVec.ofBool hi ++ n : Byte).extractLsb' 4 3 = m ∧
        (BitVec.ofBool x ++ m ++ BitVec.ofBool hi ++ n : Byte).extractLsb' 0 3 = n := by decide
  obtain ⟨hx, hhi, hsrc, hdst⟩ := hfields x hi src.code dst.code
  exact ⟨hx, hhi, (congrArg xregOf hsrc).trans (xregOf_code src), (congrArg xregOf hdst).trans (xregOf_code dst)⟩

/-- A transfer postbyte of a form the version has is read as the instruction it names (R120, R121). -/
theorem reads_pTransfer {v : Version} {hi : Bool} (h : transferForm v hi = true) (x : Bool) (src dst : XReg) :
    Reads (pTransfer v) [ebByte x hi src dst]
      (if x then exchangeInstr hi src dst else transferInstr hi src dst) := by
  intro rest
  obtain ⟨hx, hhi, hsrc, hdst⟩ := ebByte_fields x hi src dst
  have haccepted : (hi && v == .cpu12v1) = false ∧ (hi && v.isX) = hi := by
    cases hi <;> cases v <;> simp_all [transferForm, Version.isX]
  simp only [pTransfer_eq, andThen, List.cons_append, List.nil_append, takeByte, Except.bind, transferOf, hx, hhi,
    hsrc, hdst, haccepted]
  rfl

theorem loopRegOf_code (r : LoopReg) : loopRegOf r.code = some r := by cases r <;> rfl

/-- The fields of a loop postbyte (R125). -/
theorem loopByte_fields (op : BitVec 3) (s t : BitVec 1) (r : BitVec 3) :
    (op ++ s ++ t ++ r : Byte).extractLsb' 5 3 = op ∧ (op ++ s ++ t ++ r : Byte).extractLsb' 4 1 = s ∧
      (op ++ s ++ t ++ r : Byte).extractLsb' 0 3 = r := by
  decide +revert

/-- A loop postbyte and its offset are read as the loop primitive they name (R125). -/
theorem reads_loop {op : BitVec 3} {f : LoopReg → BitVec 9 → Instr}
    (hop : ∀ r off, loopInstrOf op r off = some (f r off)) (r : LoopReg) (off : BitVec 9) :
    Reads pLoop [op ++ off.extractLsb' 8 1 ++ 0#1 ++ r.code, off.extractLsb' 0 8] (f r off) := by
  intro rest
  obtain ⟨h5, h4, h0⟩ := loopByte_fields op (off.extractLsb' 8 1) 0#1 r.code
  simp only [pLoop_eq, andThen, List.cons_append, List.nil_append, takeByte, Except.bind, loopOf, h5, h4, h0,
    loopRegOf_code, Option.bind, offset9_split, hop]

/-! ## Reading an instruction after its opcode (R91, R130 to R133) -/

/-- In the map that `take` reads, the opcode `op` is followed by what `p` reads. -/
def Opens (take : List Byte → Taken Instr) (op : Byte) (p : Parser) : Prop := ∀ bs, take (op :: bs) = p bs

theorem Opens.reads {take : List Byte → Taken Instr} {op : Byte} {p : Parser} {bytes : List Byte} {i : Instr}
    (h : Opens take op p) (hp : Reads p bytes i) : Reads take (op :: bytes) i := fun rest => (h _).trans (hp rest)

/-- An opcode of page 1 (R91, R130). -/
theorem page1_opens {v : Version} {op : Byte} {p : Parser} (h : mapEntry (page1 v) op = some p) :
    Opens (decode v) op p := fun bs => by
  simp only [decode_eq, andThen, takeByte, Except.bind, h]

/-- The prebyte opens page 2 (R91). -/
theorem prebyte_opens (v : Version) : Opens (decode v) 0x18#8 (pPage2 v) := page1_opens rfl

/-- A position of page 2 with an entry (R132, R133). -/
theorem page2_opens {v : Version} {tn : Byte} {p : Parser}
    (h : mapEntry (if v.isX then page2X v else page2Cpu12 v) tn = some p) : Opens (pPage2 v) tn p := fun bs => by
  simp only [pPage2_eq, andThen, takeByte, Except.bind, h]

/-- A position of page 2 that has no entry is TRAP (R128). -/
theorem page2_opens_trap {v : Version} {tn : Byte}
    (h : mapEntry (if v.isX then page2X v else page2Cpu12 v) tn = none) :
    Opens (pPage2 v) tn (pInh (.trap tn)) := fun bs => by
  simp only [pPage2_eq, andThen, takeByte, Except.bind, h]
  rfl

/-- A position of page 2 of CPU12X (R133). -/
theorem page2X_opens {v : Version} {tn : Byte} {p : Parser} (hv : v.isX = true) (h : mapEntry (page2X v) tn = some p) :
    Opens (pPage2 v) tn p := page2_opens (by rwa [if_pos hv])

/-- A position of page 2 that is the same on CPU12 and CPU12X (R132, R133). -/
theorem page2Both_opens {v : Version} {tn : Byte} {p : Parser} (h12 : mapEntry (page2Cpu12 v) tn = some p)
    (hx : mapEntry (page2X v) tn = some p) : Opens (pPage2 v) tn p :=
  page2_opens (by split <;> assumption)

section shapes

variable {take : List Byte → Taken Instr} {i d x e : Byte}

theorem reads_src8 {f : Src8 → Instr} (hi : Opens take i (pI8 f)) (hd : Opens take d (pD8 f))
    (hx : Opens take x (pX8 f)) (he : Opens take e (pE8 f)) (op : Src8) : Reads take (op.bytes i d x e) (f op) :=
  match op with
  | .imm v => hi.reads (reads_pByte _ v)
  | .mem (.dir a) => hd.reads (reads_pByte _ a)
  | .mem (.ext a) => he.reads (reads_pWord _ a)
  | .mem (.idx xb) => hx.reads (reads_pIdx (xb := xb) _ rfl)

theorem reads_src16 {f : Src16 → Instr} (hi : Opens take i (pI16 f)) (hd : Opens take d (pD16 f))
    (hx : Opens take x (pX16 f)) (he : Opens take e (pE16 f)) (op : Src16) : Reads take (op.bytes i d x e) (f op) :=
  match op with
  | .imm v => hi.reads (reads_pWord _ v)
  | .mem (.dir a) => hd.reads (reads_pByte _ a)
  | .mem (.ext a) => he.reads (reads_pWord _ a)
  | .mem (.idx xb) => hx.reads (reads_pIdx (xb := xb) _ rfl)

theorem reads_dirExtIdx {f : DirExtIdx → Instr} (hd : Opens take d (pDM f)) (hx : Opens take x (pXM f))
    (he : Opens take e (pEM f)) (op : DirExtIdx) : Reads take (op.bytes d x e) (f op) :=
  match op with
  | .dir a => hd.reads (reads_pByte _ a)
  | .ext a => he.reads (reads_pWord _ a)
  | .idx xb => hx.reads (reads_pIdx (xb := xb) _ rfl)

theorem reads_extIdx {f : ExtIdx → Instr} (hx : Opens take x (pXE f)) (he : Opens take e (pEE f)) (op : ExtIdx) :
    Reads take (op.bytes x e) (f op) :=
  match op with
  | .ext a => he.reads (reads_pWord _ a)
  | .idx xb => hx.reads (reads_pIdx (xb := xb) _ rfl)

/-- The operand of a bit instruction and its mask (R112, R400). -/
theorem reads_masked {f : DirExtIdx → Byte → Instr} (hd : Opens take d (thenMask takeDir f))
    (hx : Opens take x (thenMask takeIdx f)) (he : Opens take e (thenMask takeExt f)) {op : DirExtIdx}
    (h : op.isDirect = true) (mask : Byte) : Reads take (op.bytes d x e ++ [mask]) (f op mask) :=
  match op, h with
  | .dir a, _ => hd.reads ((reads_takeDir a).thenMask f mask)
  | .ext a, _ => he.reads ((reads_takeExt a).thenMask f mask)
  | .idx _, h => hx.reads ((reads_takeIdx h).thenMask f mask)

/-- The operand of a bit branch, its mask and its offset (R112, R519). -/
theorem reads_maskedBranch {f : DirExtIdx → Byte → Byte → Instr} (hd : Opens take d (thenMaskRel takeDir f))
    (hx : Opens take x (thenMaskRel takeIdx f)) (he : Opens take e (thenMaskRel takeExt f)) {op : DirExtIdx}
    (h : op.isDirect = true) (mask rel : Byte) : Reads take (op.bytes d x e ++ [mask, rel]) (f op mask rel) :=
  match op, h with
  | .dir a, _ => hd.reads ((reads_takeDir a).thenMaskRel f mask rel)
  | .ext a, _ => he.reads ((reads_takeExt a).thenMaskRel f mask rel)
  | .idx _, h => hx.reads ((reads_takeIdx h).thenMaskRel f mask rel)

/-- The six classes of a move (R93, R215, R218). -/
theorem reads_move {α : Type} {v : Version} {base : Byte} {takeImm : List Byte → Taken α} {imm : α → List Byte}
    {f : Move α → Instr} (himm : ∀ k, Reads takeImm (imm k) k) (h0 : Opens take base (pMoveImmIdx v takeImm f))
    (h1 : Opens take (base + 1#8) (pMoveExtIdx v f)) (h2 : Opens take (base + 2#8) (pMoveIdxIdx v f))
    (h3 : Opens take (base + 3#8) (pMoveImmExt takeImm f)) (h4 : Opens take (base + 4#8) (pMoveExtExt f))
    (h5 : Opens take (base + 5#8) (pMoveIdxExt v f)) (m : Move α) (h : m.wf v = true) :
    Reads take (m.bytes base imm) (f m) := by
  cases m with
  | immIdx k dst =>
    rw [pMoveImmIdx_eq] at h0
    exact h0.reads ((reads_takeForm h).andThen ((himm k).andMake _))
  | extIdx src dst =>
    rw [pMoveExtIdx_eq] at h1
    exact h1.reads ((reads_takeForm h).andThen ((reads_takeWord src).andMake _))
  | idxIdx src dst =>
    rw [pMoveIdxIdx_eq] at h2
    obtain ⟨hs, hd⟩ := (Bool.and_eq_true _ _).mp h
    exact h2.reads ((reads_takeForm hs).andThen ((reads_takeForm hd).andMake _))
  | immExt k dst =>
    rw [pMoveImmExt_eq] at h3
    exact h3.reads ((himm k).andThen ((reads_takeWord dst).andMake _))
  | extExt src dst =>
    rw [pMoveExtExt_eq] at h4
    exact h4.reads ((reads_takeWord src).andThen ((reads_takeWord dst).andMake _))
  | idxExt src dst =>
    rw [pMoveIdxExt_eq] at h5
    exact h5.reads ((reads_takeForm h).andThen ((reads_takeWord dst).andMake _))

end shapes

/-- LEAX, LEAY and LEAS with the words no other mnemonic has (R112). -/
theorem reads_pLea {f : Indexed → Instr} {xb : Indexed} (hdirect : xb.isDirect = true) (hname : nameLea (f xb) = f xb) :
    Reads (pLea f) xb.bytes (f xb) := by
  have h : Reads (pLea f) xb.bytes (nameLea (f xb)) := reads_pIdx (fun xb => nameLea (f xb)) hdirect
  rwa [hname] at h

/-- The operand of CALL (R93). -/
theorem reads_call {v : Version} {op : CallOp} (h : op.wf = true) : Reads (decode v) op.bytes (.call op) := by
  cases op with
  | ext a pg =>
    refine (page1_opens (p := pCallExt) rfl).reads ?_
    rw [pCallExt_eq]
    exact (reads_takeWord a).andThen ((reads_takeByte pg).andMake _)
  | idx xb pg =>
    refine (page1_opens (p := pCallIdx) rfl).reads ?_
    rw [pCallIdx_eq]
    refine (reads_takeIndexed xb).andThen fun rest => ?_
    rw [if_pos (show xb.isDirect = true from h)]
    exact (reads_takeByte pg).andMake (fun pg => Instr.call (.idx xb pg)) rest
  | ind xb =>
    refine (page1_opens (p := pCallIdx) rfl).reads fun rest => ?_
    rw [pCallIdx_eq, andThen, reads_takeIndexed xb rest, Except.bind, if_neg]
    simpa [CallOp.wf] using h

/-- The positions of page 2 of CPU12X with no instruction and no constructor of their own (R128, R133). -/
def trapsX : List Byte :=
  [0x30, 0x31, 0x32, 0x33, 0x34, 0x49, 0x4A, 0x4B, 0x4C, 0x4D, 0x4E, 0x4F, 0x59, 0x81, 0x86, 0x91, 0xA1, 0xB1, 0xB7,
   0xC1, 0xC6, 0xCC, 0xCD, 0xCE, 0xCF, 0xD1, 0xE1, 0xF1]

theorem unassigned_of_isX {v : Version} (hv : v.isX = true) (tn : Byte) : unassigned v tn = true ↔ tn ∈ trapsX := by
  have hlist : ∀ tn : Byte, unassigned .cpu12xv0 tn = true ↔ tn ∈ trapsX := by decide
  rw [← hlist, unassigned, if_pos hv]
  rfl

/-- The positions of the rows of CPU12's page 2 with no instruction (R128, R132). -/
def traps12 : List Byte := [0x30, 0x31, 0x32, 0x33, 0x34, 0x35, 0x36, 0x37, 0x38, 0x39]

theorem unassigned_of_not_isX {v : Version} (hv : v.isX = false) (tn : Byte) :
    unassigned v tn = true ↔ tn ∈ traps12 ∨ 0x40 ≤ tn.toNat := by
  have hlist : ∀ tn : Byte, unassigned .cpu12v0 tn = true ↔ tn ∈ traps12 ∨ 0x40 ≤ tn.toNat := by decide
  rw [← hlist, unassigned, hv]
  rfl

/-- Unassigned positions of page 2 are read as TRAP (R128). -/
theorem reads_trap {v : Version} {tn : Byte} (h : unassigned v tn = true) : Reads (pPage2 v) [tn] (.trap tn) := by
  suffices Opens (pPage2 v) tn (pInh (.trap tn)) from this.reads (reads_pInh _)
  cases hv : v.isX with
  | true =>
    have hmap : ∀ tn ∈ trapsX, mapEntry (page2X v) tn = some (pInh (.trap tn)) := by
      simp only [trapsX, List.forall_mem_cons, List.not_mem_nil, false_implies, implies_true, and_true]
      and_intros <;> rfl
    exact page2X_opens hv (hmap tn ((unassigned_of_isX hv tn).mp h))
  | false =>
    have hmap : ∀ tn ∈ traps12, mapEntry (page2Cpu12 v) tn = some (pInh (.trap tn)) := by
      simp only [traps12, List.forall_mem_cons, List.not_mem_nil, false_implies, implies_true, and_true]
      and_intros <;> rfl
    obtain hlow | hhigh := (unassigned_of_not_isX hv tn).mp h
    · exact page2_opens (by rw [hv]; exact hmap tn hlow)
    · refine page2_opens_trap ?_
      have hrow : (page2Cpu12 v)[tn.toNat / 16]? = none :=
        List.getElem?_eq_none (Nat.le_div_iff_mul_le (by decide) |>.mpr hhigh)
      simp [hv, mapEntry, hrow]

theorem reads_andcc {mask : Byte} (h : andccNamed mask = false) : Reads (pByte nameAndcc) [mask] (.andcc mask) := by
  simp only [andccNamed, Bool.or_eq_false_iff, beq_eq_false_iff_ne] at h
  obtain ⟨⟨hclc, hcli⟩, hclv⟩ := h
  have hname : nameAndcc mask = .andcc mask := by rw [nameAndcc, if_neg hclc, if_neg hcli, if_neg hclv]
  exact hname ▸ reads_pByte nameAndcc mask

theorem reads_orcc {mask : Byte} (h : orccNamed mask = false) : Reads (pByte nameOrcc) [mask] (.orcc mask) := by
  simp only [orccNamed, Bool.or_eq_false_iff, beq_eq_false_iff_ne] at h
  obtain ⟨⟨hsec, hsei⟩, hsev⟩ := h
  have hname : nameOrcc mask = .orcc mask := by rw [nameOrcc, if_neg hsec, if_neg hsei, if_neg hsev]
  exact hname ▸ reads_pByte nameOrcc mask

/-- A word of LEAX, LEAY or LEAS that no other mnemonic has keeps its name (R112). -/
theorem nameLea_of_wf {v : Version} {f : Indexed → Instr} {op : Indexed} (hf : f ∈ [Instr.leax, .leay, .leas])
    (h : (f op).wf v = true) : op.isDirect = true ∧ nameLea (f op) = f op := by
  simp only [List.mem_cons, List.not_mem_nil, or_false] at hf
  obtain rfl | rfl | rfl := hf
  all_goals
    simp only [Instr.wf, Bool.and_eq_true, bne_iff_ne, ne_eq] at h
    simp [nameLea, h]

/-- What the encoder writes of a well-formed instruction is read back (R90 to R128). -/
theorem reads_encode {v : Version} {i : Instr} (h : i.wf v = true) : Reads (decode v) (encode i) i := by
  cases i
  case ldaa op | ldab op | adca op | adcb op | adda op | addb op | sbca op | sbcb op | suba op | subb op | cmpa op |
      cmpb op | anda op | andb op | eora op | eorb op | oraa op | orab op | bita op | bitb op =>
    exact reads_src8 (page1_opens rfl) (page1_opens rfl) (page1_opens rfl) (page1_opens rfl) op
  case ldd op | lds op | ldx op | ldy op | addd op | subd op | cpd op | cps op | cpx op | cpy op =>
    exact reads_src16 (page1_opens rfl) (page1_opens rfl) (page1_opens rfl) (page1_opens rfl) op
  case leas op | leax op | leay op =>
    obtain ⟨hdirect, hname⟩ := nameLea_of_wf (by simp) h
    exact (page1_opens rfl).reads (reads_pLea hdirect hname)
  case staa op | stab op | std op | sts op | stx op | sty op | jsr op =>
    exact reads_dirExtIdx (page1_opens rfl) (page1_opens rfl) (page1_opens rfl) op
  case gldaa op | gldab op | gldd op | glds op | gldx op | gldy op | gstaa op | gstab op | gstd op | gsts op |
      gstx op | gsty op =>
    exact (prebyte_opens v).reads (reads_dirExtIdx (page2X_opens h rfl) (page2X_opens h rfl) (page2X_opens h rfl) op)
  case tfr hi src dst | sex hi src dst =>
    obtain ⟨hform, hname⟩ := (Bool.and_eq_true _ _).mp h
    have hreads := reads_pTransfer hform false src dst
    rw [if_neg Bool.false_ne_true, beq_iff_eq.mp hname] at hreads
    exact (page1_opens rfl).reads hreads
  case exg hi src dst =>
    obtain ⟨hform, hname⟩ := (Bool.and_eq_true _ _).mp h
    have hreads := reads_pTransfer hform true src dst
    rw [if_pos rfl, beq_iff_eq.mp hname] at hreads
    exact (page1_opens rfl).reads hreads
  case movb m =>
    exact (prebyte_opens v).reads (reads_move reads_takeByte (page2Both_opens rfl rfl) (page2Both_opens rfl rfl)
      (page2Both_opens rfl rfl) (page2Both_opens rfl rfl) (page2Both_opens rfl rfl) (page2Both_opens rfl rfl) m h)
  case movw m =>
    exact (prebyte_opens v).reads (reads_move reads_takeWord (page2Both_opens rfl rfl) (page2Both_opens rfl rfl)
      (page2Both_opens rfl rfl) (page2Both_opens rfl rfl) (page2Both_opens rfl rfl) (page2Both_opens rfl rfl) m h)
  case addx op | addy op | aded op | adex op | adey op | subx op | suby op | sbed op | sbex op | sbey op | cped op |
      cpes op | cpex op | cpey op | andx op | andy op | eorx op | eory op | orx op | ory op | bitx op | bity op =>
    exact (prebyte_opens v).reads (reads_src16 (page2X_opens h rfl) (page2X_opens h rfl) (page2X_opens h rfl)
      (page2X_opens h rfl) op)
  case dec op | inc op | tst op | clr op | com op | neg op | asl op | asr op | lsr op | rol op | ror op | jmp op =>
    exact reads_extIdx (page1_opens rfl) (page1_opens rfl) op
  case decw op | incw op | tstw op | clrw op | comw op | negw op | aslw op | asrw op | lsrw op | rolw op | rorw op =>
    exact (prebyte_opens v).reads (reads_extIdx (page2X_opens h rfl) (page2X_opens h rfl) op)
  case andcc mask => exact (page1_opens rfl).reads (reads_andcc (Bool.not_eq_true' _ |>.mp h))
  case orcc mask => exact (page1_opens rfl).reads (reads_orcc (Bool.not_eq_true' _ |>.mp h))
  case bclr op mask | bset op mask =>
    exact reads_masked (page1_opens rfl) (page1_opens rfl) (page1_opens rfl) h mask
  case btas op mask =>
    obtain ⟨hv, hop⟩ := (Bool.and_eq_true _ _).mp h
    exact (prebyte_opens v).reads (reads_masked (page2X_opens hv rfl) (page2X_opens hv rfl) (page2X_opens hv rfl) hop
      mask)
  case maxa op | maxm op | mina op | minm op | emaxd op | emaxm op | emind op | eminm op =>
    exact (prebyte_opens v).reads ((page2Both_opens rfl rfl).reads (reads_pIdx _ rfl))
  case emacs addr => exact (prebyte_opens v).reads ((page2Both_opens rfl rfl).reads (reads_pWord _ _))
  case tbl op | etbl op =>
    exact (prebyte_opens v).reads ((page2Both_opens rfl rfl).reads (reads_pIdx _ h))
  case bra rel | brn rel | bcc rel | bcs rel | beq rel | bne rel | bmi rel | bpl rel | bvc rel | bvs rel | bhi rel |
      bls rel | bge rel | bgt rel | ble rel | blt rel | bsr rel =>
    exact (page1_opens rfl).reads (reads_pByte _ rel)
  case lbra rel | lbrn rel | lbcc rel | lbcs rel | lbeq rel | lbne rel | lbmi rel | lbpl rel | lbvc rel | lbvs rel |
      lbhi rel | lbls rel | lbge rel | lbgt rel | lble rel | lblt rel =>
    exact (prebyte_opens v).reads ((page2Both_opens rfl rfl).reads (reads_pWord _ _))
  case bhs rel | blo rel | lbhs rel | lblo rel => exact absurd h Bool.false_ne_true
  case brclr op mask rel | brset op mask rel =>
    exact reads_maskedBranch (page1_opens rfl) (page1_opens rfl) (page1_opens rfl) h mask rel
  case dbeq r off | dbne r off | tbeq r off | tbne r off | ibeq r off | ibne r off =>
    exact (page1_opens rfl).reads (reads_loop (fun _ _ => rfl) r off)
  case call op => exact reads_call h
  case trap tn => exact (prebyte_opens v).reads (reads_trap h)
  case tab | tba | aba | sba | daa | cba | emuls | edivs | fdiv | idiv | idivs | rev | revw | wav | stop =>
    exact (prebyte_opens v).reads ((page2Both_opens rfl rfl).reads (reads_pInh _))
  case tap | tpa | tsx | tsy | txs | tys | xgdx | xgdy | abx | aby | des | ins | clc | cli | clv | sec | sei | sev =>
    exact fun _ => rfl
  case deca | decb | dex | dey | inca | incb | inx | iny | tsta | tstb | clra | clrb | coma | comb | nega | negb |
      mul | emul | ediv | asla | aslb | asld | asra | asrb | lsra | lsrb | lsrd | rola | rolb | rora | rorb | mem |
      wavr | rts | rtc | rti | swi | bgnd | psha | pshb | pshc | pshd | pshx | pshy | pula | pulb | pulc | puld |
      pulx | puly | nop | wai =>
    exact (page1_opens rfl).reads (reads_pInh _)
  case decx | decy | incx | incy | tstx | tsty | clrx | clry | comx | comy | negx | negy | aslx | asly | asrx | asry |
      lsrx | lsry | rolx | roly | rorx | rory | sys | pshcw | pulcw =>
    exact (prebyte_opens v).reads ((page2X_opens h rfl).reads (reads_pInh _))

/-- Settles O1: every operand form is read back from the bytes the encoder lays it out in. -/
theorem decodeOfEncode : Obligations.DecodeOfEncode := fun _ _ rest h => reads_encode h rest

end Sys2Proof.Machine
end

section
/-!
SUPPORT. What the decoder refuses by name (30_encoding.md R112, R121, R126, R219).
-/

namespace Sys2Proof.Machine

/-! ## Refusing a form by name (R112, R121, R126) -/

/-- `take` refuses the bytes `bytes`, whatever follows them, for the reason `e`. -/
def Refuses {α : Type} (take : List Byte → Taken α) (bytes : List Byte) (e : DecodeError) : Prop :=
  ∀ rest, take (bytes ++ rest) = .error e

theorem Refuses.andThen {α β : Type} {take : List Byte → Taken α} {bytes : List Byte} {e : DecodeError}
    (h : Refuses take bytes e) (next : α → List Byte → Taken β) : Refuses (andThen take next) bytes e := fun rest => by
  rw [Machine.andThen, h]
  rfl

theorem Refuses.andMake {α β : Type} {take : List Byte → Taken α} {bytes : List Byte} {e : DecodeError}
    (h : Refuses take bytes e) (f : α → β) : Refuses (andMake take f) bytes e := h.andThen _

/-- A part that is read, and one after it that is refused. -/
theorem Reads.andRefuses {α β : Type} {take : List Byte → Taken α} {next : α → List Byte → Taken β}
    {front back : List Byte} {a : α} {e : DecodeError} (h : Reads take front a) (hn : Refuses (next a) back e) :
    Refuses (Machine.andThen take next) (front ++ back) e := fun rest => by
  rw [Machine.andThen, List.append_assoc, h]
  exact hn rest

theorem Opens.refuses {take : List Byte → Taken Instr} {op : Byte} {p : Parser} {bytes : List Byte} {e : DecodeError}
    (h : Opens take op p) (hp : Refuses p bytes e) : Refuses take (op :: bytes) e := fun rest => (h _).trans (hp rest)

/-- What a position of page 2 refuses, the decoder refuses after the prebyte (R91). -/
theorem Opens.page2_refuses {v : Version} {tn : Byte} {p : Parser} {bytes : List Byte} {e : DecodeError}
    (h : Opens (pPage2 v) tn p) (hp : Refuses p bytes e) : Refuses (decode v) (0x18#8 :: tn :: bytes) e :=
  (prebyte_opens v).refuses (h.refuses hp)

theorem refuses_takeForm {accepts : Indexed → Bool} {xb : Indexed} (h : accepts xb = false) :
    Refuses (takeForm accepts) xb.bytes .indexedForm := fun rest => by
  rw [takeForm_bytes, h]
  rfl

section forms

variable {accepts : Indexed → Bool} {xb : Indexed}

theorem refuses_pIdx (h : accepts xb = false) (f : Indexed → Instr) :
    Refuses (pIdx accepts f) xb.bytes .indexedForm := by
  rw [pIdx_eq]
  exact (refuses_takeForm h).andMake f

theorem refuses_takeIdx (h : xb.isDirect = false) : Refuses takeIdx xb.bytes .indexedForm := by
  rw [takeIdx_eq]
  exact (refuses_takeForm h).andMake _

theorem refuses_thenMask (h : xb.isDirect = false) (f : DirExtIdx → Byte → Instr) :
    Refuses (thenMask takeIdx f) xb.bytes .indexedForm := by
  rw [thenMask_eq]
  exact (refuses_takeIdx h).andThen _

theorem refuses_thenMaskRel (h : xb.isDirect = false) (f : DirExtIdx → Byte → Byte → Instr) :
    Refuses (thenMaskRel takeIdx f) xb.bytes .indexedForm := by
  rw [thenMaskRel_eq]
  exact (refuses_takeIdx h).andThen _

theorem moveForm_of_not_isX {v : Version} (hv : v.isX = false) (xb : Indexed) : moveForm v xb = xb.isShort := by
  rw [moveForm, hv, Bool.false_or]

/-- The four classes of a move whose indexed operand stands first refuse it by its form (R219). -/
theorem refuses_move {α : Type} {v : Version} (h : moveForm v xb = false) (imm : List Byte → Taken α)
    (f : Move α → Instr) :
    Refuses (pMoveImmIdx v imm f) xb.bytes .indexedForm ∧ Refuses (pMoveExtIdx v f) xb.bytes .indexedForm ∧
      Refuses (pMoveIdxIdx v f) xb.bytes .indexedForm ∧ Refuses (pMoveIdxExt v f) xb.bytes .indexedForm := by
  rw [pMoveImmIdx_eq, pMoveExtIdx_eq, pMoveIdxIdx_eq, pMoveIdxExt_eq]
  have hform := refuses_takeForm h
  exact ⟨hform.andThen _, hform.andThen _, hform.andThen _, hform.andThen _⟩

/-- A move refuses its destination by its form when its source is accepted (R219). -/
theorem refuses_move_destination {α : Type} {v : Version} {src : Indexed} (hs : moveForm v src = true)
    (h : moveForm v xb = false) (f : Move α → Instr) :
    Refuses (pMoveIdxIdx v f) (src.bytes ++ xb.bytes) .indexedForm := by
  rw [pMoveIdxIdx_eq]
  exact (reads_takeForm hs).andRefuses ((refuses_takeForm h).andMake _)

end forms

/-- Bit 3 of the transfer postbyte is refused on CPU12V1 (R121). -/
theorem refuses_pTransfer {eb : Byte} (h : eb.getLsbD 3 = true) :
    Refuses (pTransfer .cpu12v1) [eb] .transferBit3 := by
  rw [pTransfer_eq]
  refine (reads_takeByte eb).andRefuses (back := []) fun rest => ?_
  rw [h]
  rfl

/-- Settles O7: the parser of each opcode refuses the form, and the opcode opens that parser. -/
theorem reservedFormsRefused : Obligations.ReservedFormsRefused := by
  intro v xb rest
  simp only [List.forall_mem_cons, List.not_mem_nil, false_implies, implies_true, and_true]
  refine ⟨fun h => ?direct, fun h hv => ?btas, fun h => ?table, fun h hv => ?move, fun h hv src hs => ?destination,
    fun eb h => ?transfer⟩
  case direct =>
    have lea (f : Indexed → Instr) : Refuses (pLea f) xb.bytes .indexedForm := refuses_pIdx h _
    exact ⟨(page1_opens rfl).refuses (lea .leay) rest, (page1_opens rfl).refuses (lea .leax) rest,
      (page1_opens rfl).refuses (lea .leas) rest, (page1_opens rfl).refuses (refuses_thenMask h .bset) rest,
      (page1_opens rfl).refuses (refuses_thenMask h .bclr) rest,
      (page1_opens rfl).refuses (refuses_thenMaskRel h .brset) rest,
      (page1_opens rfl).refuses (refuses_thenMaskRel h .brclr) rest⟩
  case btas => exact (page2X_opens hv rfl).page2_refuses (refuses_thenMask h .btas) rest
  case table =>
    exact ⟨(page2Both_opens rfl rfl).page2_refuses (refuses_pIdx h .tbl) rest,
      (page2Both_opens rfl rfl).page2_refuses (refuses_pIdx h .etbl) rest⟩
  case move =>
    rw [← moveForm_of_not_isX hv] at h
    obtain ⟨w0, w1, w2, w5⟩ := refuses_move h takeWord .movw
    obtain ⟨b0, b1, b2, b5⟩ := refuses_move h takeByte .movb
    exact ⟨(page2Both_opens rfl rfl).page2_refuses w0 rest, (page2Both_opens rfl rfl).page2_refuses w1 rest,
      (page2Both_opens rfl rfl).page2_refuses w2 rest, (page2Both_opens rfl rfl).page2_refuses w5 rest,
      (page2Both_opens rfl rfl).page2_refuses b0 rest, (page2Both_opens rfl rfl).page2_refuses b1 rest,
      (page2Both_opens rfl rfl).page2_refuses b2 rest, (page2Both_opens rfl rfl).page2_refuses b5 rest⟩
  case destination =>
    rw [← moveForm_of_not_isX hv] at h hs
    rw [List.append_assoc _ src.bytes, List.append_assoc _ src.bytes]
    exact ⟨(page2Both_opens rfl rfl).page2_refuses (refuses_move_destination hs h .movw) rest,
      (page2Both_opens rfl rfl).page2_refuses (refuses_move_destination hs h .movb) rest⟩
  case transfer => exact (page1_opens rfl).refuses (refuses_pTransfer h) rest

/-! ## The reserved loop postbytes (R125, R126) -/

theorem loopRegOf_eq_none_iff (n : BitVec 3) : loopRegOf n = none ↔ n.toNat = 2 ∨ n.toNat = 3 := by
  decide +revert

theorem loopInstrOf_eq_none_iff (op : BitVec 3) (r : LoopReg) (off : BitVec 9) :
    loopInstrOf op r off = none ↔ 6 ≤ op.toNat := by
  have hops : ∀ op : BitVec 3, 6 ≤ op.toNat ↔ op ≠ 0 ∧ op ≠ 1 ∧ op ≠ 2 ∧ op ≠ 3 ∧ op ≠ 4 ∧ op ≠ 5 := by decide
  rw [hops, loopInstrOf]
  split_ifs <;> simp_all

/-- The reserved postbytes name nothing, whatever byte follows them (R126). -/
theorem loopOf_eq_none_iff (lb rr : Byte) :
    loopOf lb rr = none ↔ 0xC0 ≤ lb.toNat ∨ lb.toNat % 8 = 2 ∨ lb.toNat % 8 = 3 := by
  have hop : (lb.extractLsb' 5 3).toNat = lb.toNat / 32 := by
    rw [BitVec.extractLsb'_toNat, Nat.shiftRight_eq_div_pow]
    omega
  have hreg : (lb.extractLsb' 0 3).toNat = lb.toNat % 8 := by
    rw [BitVec.extractLsb'_toNat, Nat.shiftRight_zero]
  have hnone := loopRegOf_eq_none_iff (lb.extractLsb' 0 3)
  rw [hreg] at hnone
  rw [loopOf]
  cases hr : loopRegOf (lb.extractLsb' 0 3) with
  | none => simp [hnone.mp hr]
  | some r =>
    have hvalid : ¬(lb.toNat % 8 = 2 ∨ lb.toNat % 8 = 3) := fun h => Option.some_ne_none r (hr ▸ hnone.mpr h)
    rw [Option.bind_some, loopInstrOf_eq_none_iff, hop]
    omega

/-- Bit 3 of the loop postbyte is not looked at (R125). -/
theorem loopOf_bit3 (lb rr : Byte) : loopOf (lb ^^^ 8) rr = loopOf lb rr := by
  have hfields : (lb ^^^ 8).extractLsb' 0 3 = lb.extractLsb' 0 3 ∧ (lb ^^^ 8).extractLsb' 4 1 = lb.extractLsb' 4 1 ∧
      (lb ^^^ 8).extractLsb' 5 3 = lb.extractLsb' 5 3 := by decide +revert
  obtain ⟨hreg, hsign, hop⟩ := hfields
  rw [loopOf, loopOf, hreg, hsign, hop]

/-- The loop opcode and its two bytes (R125, R126). -/
theorem decode_loop (v : Version) (lb rr : Byte) (rest : List Byte) :
    decode v (0x04 :: lb :: rr :: rest) =
      match loopOf lb rr with
      | none => .error .loopPostbyte
      | some i => .ok (i, rest) := by
  have hopens : Opens (decode v) 0x04 pLoop := page1_opens rfl
  rw [hopens, pLoop_eq]
  rfl

/-- Settles O5: which postbytes name nothing, and that bit 3 has no part in it. -/
theorem reservedLoopPostbytes : Obligations.ReservedLoopPostbytes := by
  intro v lb rr rest
  rw [decode_loop, decode_loop, loopOf_bit3, ← loopOf_eq_none_iff lb rr]
  cases loopOf lb rr <;> simp

end Sys2Proof.Machine
end

section
/-!
SUPPORT. The operands (30_encoding.md R97 to R107): every postbyte's address, and the values the modes give.
-/

namespace Sys2Proof.Machine

/-! ## The address of an operand (R97 to R107) -/

theorem State.base_idxRegOf (s : State) (pc : Word) (rr : BitVec 2) :
    s.base pc (idxRegOf rr) = if rr = 0 then s.x else if rr = 1 then s.y else if rr = 2 then s.sp else pc := by
  simp only [idxRegOf, apply_ite (s.base pc)]
  rfl

/-- A signed offset, added in integers (R101, R104). -/
theorem add_signExtend_eq_ofInt {k : Nat} (w : Word) (n : BitVec k) :
    w + n.signExtend 16 = BitVec.ofInt 16 (w.toNat + n.toInt) := by
  rw [BitVec.ofInt_add, BitVec.ofInt_natCast, BitVec.ofNat_toNat, BitVec.setWidth_eq]
  rfl

/-- The adjustment of an auto form, in integers (R102). -/
theorem autoDelta_eq_ofInt (n : BitVec 4) :
    autoDelta n = BitVec.ofInt 16 (if 0 ≤ n.toInt then n.toInt + 1 else n.toInt) := by
  decide +revert

theorem add_autoDelta_eq_ofInt (w : Word) (n : BitVec 4) :
    w + autoDelta n = BitVec.ofInt 16 (w.toNat + if 0 ≤ n.toInt then n.toInt + 1 else n.toInt) := by
  rw [autoDelta_eq_ofInt, BitVec.ofInt_add, BitVec.ofInt_natCast, BitVec.ofNat_toNat, BitVec.setWidth_eq]

/-- An unsigned offset, added in integers (R103, R105). -/
theorem add_eq_ofNat (w d : Word) : w + d = BitVec.ofNat 16 (w.toNat + d.toNat) := by bv_omega

theorem zextByte_toNat (b : Byte) : (zextByte b).toNat = b.toNat := by
  unfold zextByte
  rw [BitVec.toNat_setWidth, Nat.mod_eq_of_lt (by omega)]

theorem add_joinBytes_eq_ofNat (w : Word) (ee ff : Byte) :
    w + joinBytes ee ff = BitVec.ofNat 16 (w.toNat + 256 * ee.toNat + ff.toNat) := by
  rw [add_eq_ofNat, joinBytes_toNat, ← Nat.add_assoc]

/-- The register an auto postbyte names: `rr` is not 3 (R102). -/
theorem exists_autoReg {rr : BitVec 2} (h : rr ≠ 3) : ∃ r : AutoReg, r.code = rr := by
  have hcodes : ∀ rr : BitVec 2, rr ≠ 3 → rr = 0 ∨ rr = 1 ∨ rr = 2 := by decide
  obtain rfl | rfl | rfl := hcodes rr h
  · exact ⟨.x, rfl⟩
  · exact ⟨.y, rfl⟩
  · exact ⟨.sp, rfl⟩

/-- Settles O3: each postbyte read by `takeIndexed_off5`, `takeIndexed_auto`, `takeIndexed_off9` or `takeIndexed_form`,
and the sum of its form as a number. -/
theorem indexedAddressing : Obligations.IndexedAddressing := by
  intro s rr rest base reaches
  have hbase : s.base s.pc (idxRegOf rr) = base := s.base_idxRegOf s.pc rr
  have form (f : BitVec 3) (bytes : List Byte) :
      takeIndexed ([7#3 ++ rr ++ f] ++ bytes) = takeFormBytes (idxRegOf rr) f bytes := takeIndexed_form rr f bytes
  refine ⟨fun n => ?off5, fun hrr p n => ?auto, ?a, ?b, ?d, fun top ff => ?off9, fun ee ff => ?off16,
    fun ee ff => ?ind16, ?indD⟩
  case off5 =>
    refine ⟨.off5 (idxRegOf rr) n, takeIndexed_off5 rr n rest, ?_⟩
    rw [State.indexed, State.indexedFrom, hbase, add_signExtend_eq_ofInt]
  case auto =>
    obtain ⟨r, rfl⟩ := exists_autoReg hrr
    refine ⟨.auto r p n, takeIndexed_auto r p n rest, ?_⟩
    have hold : s.autoReg r = base := by cases r <;> rfl
    rw [State.indexed, State.indexedFrom, hold, add_autoDelta_eq_ofInt]
    cases r <;> rfl
  case a =>
    refine ⟨.acc (idxRegOf rr) .a, form 4#3 rest, ?_⟩
    rw [State.indexed, State.indexedFrom, hbase, State.accOffset, add_eq_ofNat, zextByte_toNat]
  case b =>
    refine ⟨.acc (idxRegOf rr) .b, form 5#3 rest, ?_⟩
    rw [State.indexed, State.indexedFrom, hbase, State.accOffset, add_eq_ofNat, zextByte_toNat]
  case d =>
    refine ⟨.acc (idxRegOf rr) .d, form 6#3 rest, ?_⟩
    rw [State.indexed, State.indexedFrom, hbase, State.accOffset, add_eq_ofNat]
  case off9 =>
    refine ⟨.off9 (idxRegOf rr) (top ++ ff), takeIndexed_off9 rr top ff rest, ?_⟩
    rw [State.indexed, State.indexedFrom, hbase, add_signExtend_eq_ofInt]
  case off16 =>
    refine ⟨.off16 (idxRegOf rr) (joinBytes ee ff), form 2#3 (ee :: ff :: rest), ?_⟩
    rw [State.indexed, State.indexedFrom, hbase, add_joinBytes_eq_ofNat]
  case ind16 =>
    refine ⟨.ind16 (idxRegOf rr) (joinBytes ee ff), form 3#3 (ee :: ff :: rest), ?_⟩
    rw [State.indexed, State.indexedFrom, hbase, add_joinBytes_eq_ofNat, State.read16]
    rfl
  case indD =>
    refine ⟨.indD (idxRegOf rr), form 7#3 rest, ?_⟩
    rw [State.indexed, State.indexedFrom, hbase, add_eq_ofNat, State.read16]
    rfl

/-- The page of direct addresses (R43, R66, R98). -/
theorem joinBytes_directPage (s : State) (dd : Byte) :
    joinBytes s.directPage dd =
      BitVec.ofNat 16 ((if s.cfg.version.isX then s.direct.toNat else 0) * 256 + dd.toNat) := by
  have hpage : s.directPage.toNat = if s.cfg.version.isX then s.direct.toNat else 0 := by
    rw [State.directPage, apply_ite BitVec.toNat]
    rfl
  rw [← hpage]
  apply BitVec.eq_of_toNat_eq
  rw [joinBytes_toNat, BitVec.toNat_ofNat]
  omega

/-- Settles O4: a mode leaves the bus alone, so the operand is read as before it. -/
theorem operandValues : Obligations.OperandValues := by
  intro s
  refine ⟨fun dd => ?direct, fun _ => ⟨rfl, rfl⟩, fun _ => ⟨rfl, rfl⟩, fun _ => rfl, fun _ => rfl,
    fun m => ⟨?byte, s.ea_modeOnly m⟩, fun m => ⟨?word, rfl⟩⟩
  case direct => rw [State.ea, joinBytes_directPage]
  case byte => exact congrArg (·, (s.ea m).2) (State.read8_of_bus (s.ea_bus m) _)
  case word =>
    have hread : (s.src16 (.mem m)).1 = s.read16 (s.ea m).1 := State.read16_of_bus (s.ea_bus m) _
    rw [hread, State.read16, joinBytes_toNat, word_ofNat_toNat_succ]

end Sys2Proof.Machine
end

section
/-!
SUPPORT. What the decoder can give (30_encoding.md R90, R91, R128 to R133): every entry of the opcode maps gives a
well-formed instruction from a bounded number of bytes, and TRAP only where a position of page 2 is unassigned.
-/

namespace Sys2Proof.Machine

/-! ## What a parser can give (R90, R91) -/

/-- Every part that `take` gives has the property `P` and takes at most `k` bytes, from the head; and `k` bytes are
never too few. -/
def Gives {α : Type} (P : α → Prop) (k : Nat) (take : List Byte → Taken α) : Prop :=
  ∀ bs, (∀ a rest, take bs = .ok (a, rest) → P a ∧ ∃ taken, bs = taken ++ rest ∧ taken.length ≤ k) ∧
    (take bs = .error .truncated → bs.length < k)

theorem Gives.mono {α : Type} {P Q : α → Prop} {m k : Nat} {take : List Byte → Taken α} (h : Gives P m take)
    (hPQ : ∀ a, P a → Q a) (hk : m ≤ k) : Gives Q k take := by
  intro bs
  obtain ⟨hok, htrunc⟩ := h bs
  refine ⟨fun a rest ha => ?_, fun he => (htrunc he).trans_le hk⟩
  obtain ⟨hP, taken, hbs, hlen⟩ := hok a rest ha
  exact ⟨hPQ a hP, taken, hbs, hlen.trans hk⟩

/-- Nothing more is taken. -/
theorem gives_ok {α : Type} {P : α → Prop} {a : α} (h : P a) : Gives P 0 fun bs => .ok (a, bs) := by
  refine fun bs => ⟨?_, nofun⟩
  rintro _ _ ⟨⟩
  exact ⟨h, [], rfl, Nat.le_refl 0⟩

theorem gives_error {α : Type} {P : α → Prop} {e : DecodeError} (h : e ≠ .truncated) : Gives P 0 fun _ => .error e := by
  refine fun bs => ⟨nofun, ?_⟩
  rintro ⟨⟩
  exact absurd rfl h

theorem gives_takeByte : Gives (fun _ => True) 1 takeByte := by
  intro bs
  cases bs with
  | nil => exact ⟨nofun, fun _ => Nat.one_pos⟩
  | cons b bs =>
    refine ⟨?_, nofun⟩
    rintro _ _ ⟨⟩
    exact ⟨trivial, [b], rfl, Nat.le_refl 1⟩

theorem gives_takeWord : Gives (fun _ => True) 2 takeWord := by
  intro bs
  match bs with
  | [] => exact ⟨nofun, fun _ => Nat.two_pos⟩
  | [_] => exact ⟨nofun, fun _ => Nat.one_lt_two⟩
  | h :: l :: bs =>
    refine ⟨?_, nofun⟩
    rintro _ _ ⟨⟩
    exact ⟨trivial, [h, l], rfl, Nat.le_refl 2⟩

/-- One part after another. -/
theorem Gives.andThen {α β : Type} {P : α → Prop} {Q : β → Prop} {m n : Nat} {take : List Byte → Taken α}
    {next : α → List Byte → Taken β} (h : Gives P m take) (hn : ∀ a, P a → Gives Q n (next a)) :
    Gives Q (m + n) (andThen take next) := by
  intro bs
  obtain ⟨hok, htrunc⟩ := h bs
  rw [Machine.andThen]
  cases htake : take bs with
  | error e =>
    refine ⟨nofun, ?_⟩
    rintro ⟨⟩
    exact (htrunc htake).trans_le (Nat.le_add_right m n)
  | ok x =>
    obtain ⟨a, mid⟩ := x
    obtain ⟨hP, front, rfl, hfront⟩ := hok a mid htake
    obtain ⟨hok', htrunc'⟩ := hn a hP mid
    refine ⟨fun b rest hb => ?_, fun he => ?_⟩
    · obtain ⟨hQ, back, rfl, hback⟩ := hok' b rest hb
      exact ⟨hQ, front ++ back, (List.append_assoc front back rest).symm, by rw [List.length_append]; omega⟩
    · have hmid := htrunc' he
      rw [List.length_append]
      omega

theorem Gives.andMake {α β : Type} {P : α → Prop} {Q : β → Prop} {m : Nat} {take : List Byte → Taken α} {f : α → β}
    (h : Gives P m take) (hf : ∀ a, P a → Q (f a)) : Gives Q m (andMake take f) :=
  h.andThen fun a ha => gives_ok (hf a ha)

/-- Every byte is an indexed postbyte (R101 to R107). -/
theorem postbyte_cases (xb : Byte) :
    (∃ (r : BitVec 2) (n : BitVec 5), xb = r ++ 0#1 ++ n) ∨
      (∃ (r : AutoReg) (p : Bool) (n : BitVec 4), xb = r.code ++ 1#1 ++ BitVec.ofBool p ++ n) ∨
      ∃ (r : BitVec 2) (f : BitVec 3), xb = 7#3 ++ r ++ f := by
  have hfields : ∀ xb : Byte, xb = xb.extractLsb' 6 2 ++ 0#1 ++ xb.extractLsb' 0 5 ∨
      (xb.extractLsb' 6 2 ≠ 3 ∧
        xb = xb.extractLsb' 6 2 ++ 1#1 ++ BitVec.ofBool (xb.getLsbD 4) ++ xb.extractLsb' 0 4) ∨
      xb = 7#3 ++ xb.extractLsb' 3 2 ++ xb.extractLsb' 0 3 := by decide
  obtain h | ⟨hr, h⟩ | h := hfields xb
  · exact .inl ⟨_, _, h⟩
  · obtain ⟨r, hcode⟩ := exists_autoReg hr
    exact .inr (.inl ⟨r, _, _, by rw [hcode]; exact h⟩)
  · exact .inr (.inr ⟨_, _, h⟩)

theorem gives_takeFormBytes (r : IdxReg) (f : BitVec 3) : Gives (fun _ => True) 2 (takeFormBytes r f) := by
  have byte (g : Byte → Indexed) : Gives (fun _ => True) 1 (andMake takeByte g) :=
    gives_takeByte.andMake fun _ _ => trivial
  have word (g : Word → Indexed) : Gives (fun _ => True) 2 (andMake takeWord g) :=
    gives_takeWord.andMake fun _ _ => trivial
  have done (xb : Indexed) : Gives (fun _ => True) 2 fun bs => .ok (xb, bs) :=
    (gives_ok trivial).mono (fun _ => id) (Nat.zero_le 2)
  unfold takeFormBytes
  split_ifs
  · exact done _
  · exact done _
  · exact done _
  · exact done _
  · exact word _
  · exact word _
  · exact (byte _).mono (fun _ => id) (by decide)

theorem gives_takeIndexed : Gives (fun _ => True) 3 takeIndexed := by
  have hhead : takeIndexed = andThen takeByte fun xb bs => takeIndexed (xb :: bs) := by
    funext bs
    cases bs <;> rfl
  rw [hhead]
  refine gives_takeByte.andThen (n := 2) fun xb _ => ?_
  obtain ⟨r, n, rfl⟩ | ⟨r, p, n, rfl⟩ | ⟨r, f, rfl⟩ := postbyte_cases xb
  · simp only [takeIndexed_off5]
    exact (gives_ok trivial).mono (fun _ => id) (Nat.zero_le 2)
  · simp only [takeIndexed_auto]
    exact (gives_ok trivial).mono (fun _ => id) (Nat.zero_le 2)
  · simp only [takeIndexed_form]
    exact gives_takeFormBytes _ f

theorem gives_takeForm (accepts : Indexed → Bool) : Gives (fun xb => accepts xb = true) 3 (takeForm accepts) := by
  rw [takeForm_eq]
  refine gives_takeIndexed.andThen (n := 0) fun xb _ => ?_
  split_ifs with h
  · exact gives_ok h
  · exact gives_error nofun

section parsers

variable {Q : Instr → Prop} {k : Nat}

theorem gives_pInh {i : Instr} (h : Q i) : Gives Q k (pInh i) := (gives_ok h).mono (fun _ => id) (Nat.zero_le k)

theorem gives_pByte (hk : 1 ≤ k) {f : Byte → Instr} (h : ∀ b, Q (f b)) : Gives Q k (pByte f) := by
  rw [pByte_eq]
  exact (gives_takeByte.andMake fun b _ => h b).mono (fun _ => id) hk

theorem gives_pWord (hk : 2 ≤ k) {f : Word → Instr} (h : ∀ w, Q (f w)) : Gives Q k (pWord f) := by
  rw [pWord_eq]
  exact (gives_takeWord.andMake fun w _ => h w).mono (fun _ => id) hk

theorem gives_pIdx (hk : 3 ≤ k) {accepts : Indexed → Bool} {f : Indexed → Instr}
    (h : ∀ xb, accepts xb = true → Q (f xb)) : Gives Q k (pIdx accepts f) := by
  rw [pIdx_eq]
  exact ((gives_takeForm accepts).andMake h).mono (fun _ => id) hk

theorem gives_takeDir : Gives (fun m => m.isDirect = true) 3 takeDir := by
  rw [takeDir_eq]
  exact (gives_takeByte.andMake (Q := fun m => m.isDirect = true) fun _ _ => rfl).mono (fun _ => id) (by decide)

theorem gives_takeExt : Gives (fun m => m.isDirect = true) 3 takeExt := by
  rw [takeExt_eq]
  exact (gives_takeWord.andMake (Q := fun m => m.isDirect = true) fun _ _ => rfl).mono (fun _ => id) (by decide)

theorem gives_takeIdx : Gives (fun m => m.isDirect = true) 3 takeIdx := by
  rw [takeIdx_eq]
  exact (gives_takeForm Indexed.isDirect).andMake fun _ => id

theorem Gives.thenMask {take : List Byte → Taken DirExtIdx} (ht : Gives (fun m => m.isDirect = true) 3 take)
    (hk : 4 ≤ k) {f : DirExtIdx → Byte → Instr} (h : ∀ m mask, m.isDirect = true → Q (f m mask)) :
    Gives Q k (thenMask take f) := by
  rw [thenMask_eq]
  exact (ht.andThen fun m hm => gives_takeByte.andMake fun mask _ => h m mask hm).mono (fun _ => id) hk

theorem Gives.thenMaskRel {take : List Byte → Taken DirExtIdx} (ht : Gives (fun m => m.isDirect = true) 3 take)
    (hk : 5 ≤ k) {f : DirExtIdx → Byte → Byte → Instr} (h : ∀ m mask rel, m.isDirect = true → Q (f m mask rel)) :
    Gives Q k (thenMaskRel take f) := by
  rw [thenMaskRel_eq]
  exact (ht.andThen fun m hm => gives_takeByte.andThen fun mask _ => gives_takeByte.andMake fun rel _ =>
    h m mask rel hm).mono (fun _ => id) hk

/-- The six classes of a move (R219). -/
theorem gives_move {α : Type} {v : Version} {imm : List Byte → Taken α} (himm : Gives (fun _ => True) 2 imm)
    (hk : 6 ≤ k) {f : Move α → Instr} (h : ∀ m : Move α, m.wf v = true → Q (f m)) :
    Gives Q k (pMoveImmIdx v imm f) ∧ Gives Q k (pMoveExtIdx v f) ∧ Gives Q k (pMoveIdxIdx v f) ∧
      Gives Q k (pMoveImmExt imm f) ∧ Gives Q k (pMoveExtExt f) ∧ Gives Q k (pMoveIdxExt v f) := by
  have form := gives_takeForm (moveForm v)
  rw [pMoveImmIdx_eq, pMoveExtIdx_eq, pMoveIdxIdx_eq, pMoveImmExt_eq, pMoveExtExt_eq, pMoveIdxExt_eq]
  refine ⟨?_, ?_, ?_, ?_, ?_, ?_⟩
  · exact (form.andThen fun d hd => himm.andMake fun k _ => h (.immIdx k d) hd).mono (fun _ => id) (by omega)
  · exact (form.andThen fun d hd => gives_takeWord.andMake fun s _ => h (.extIdx s d) hd).mono (fun _ => id) (by omega)
  · exact (form.andThen fun s hs => form.andMake fun d hd =>
      h (.idxIdx s d) ((Bool.and_eq_true _ _).mpr ⟨hs, hd⟩)).mono (fun _ => id) hk
  · exact (himm.andThen fun k _ => gives_takeWord.andMake fun d _ => h (.immExt k d) rfl).mono (fun _ => id) (by omega)
  · exact (gives_takeWord.andThen fun s _ => gives_takeWord.andMake fun d _ => h (.extExt s d) rfl).mono (fun _ => id)
      (by omega)
  · exact (form.andThen fun s hs => gives_takeWord.andMake fun d _ => h (.idxExt s d) hs).mono (fun _ => id) (by omega)

theorem gives_pCallExt (hk : 3 ≤ k) (h : ∀ op : CallOp, op.wf = true → Q (.call op)) : Gives Q k pCallExt := by
  rw [pCallExt_eq]
  exact (gives_takeWord.andThen fun a _ => gives_takeByte.andMake fun pg _ => h (.ext a pg) rfl).mono (fun _ => id) hk

theorem gives_pCallIdx (hk : 4 ≤ k) (h : ∀ op : CallOp, op.wf = true → Q (.call op)) : Gives Q k pCallIdx := by
  rw [pCallIdx_eq]
  refine (gives_takeIndexed.andThen (n := 1) fun xb _ => ?_).mono (fun _ => id) hk
  split_ifs with hx
  · exact gives_takeByte.andMake fun pg _ => h (.idx xb pg) hx
  · exact (gives_ok (h (.ind xb) (by simpa [CallOp.wf] using hx))).mono (fun _ => id) (Nat.zero_le 1)

theorem gives_pTransfer {v : Version} (hk : 1 ≤ k) (h : ∀ eb, Q (transferOf v eb)) : Gives Q k (pTransfer v) := by
  rw [pTransfer_eq]
  refine (gives_takeByte.andThen (n := 0) fun eb _ => ?_).mono (fun _ => id) hk
  split_ifs
  · exact gives_error nofun
  · exact gives_ok (h eb)

theorem gives_pLoop (hk : 2 ≤ k) (h : ∀ lb rr i, loopOf lb rr = some i → Q i) : Gives Q k pLoop := by
  rw [pLoop_eq]
  refine (gives_takeByte.andThen fun lb _ => gives_takeByte.andThen (n := 0) fun rr _ => ?_).mono (fun _ => id) hk
  cases hi : loopOf lb rr with
  | none => exact gives_error nofun
  | some i => exact gives_ok (h lb rr i hi)

end parsers

/-! ## What the entries of the maps give (R128, R130 to R133) -/

/-- What an entry of a map may give at a version: a well-formed instruction, and a TRAP only where `trap` says so. -/
structure Fits (v : Version) (trap : Byte → Prop) (i : Instr) : Prop where
  wf : i.wf v = true
  trap : ∀ tn, i = .trap tn → trap tn

theorem fits_iff {v : Version} {trap : Byte → Prop} {i : Instr} :
    Fits v trap i ↔ i.wf v = true ∧ ∀ tn, i = .trap tn → trap tn :=
  ⟨fun h => ⟨h.wf, h.trap⟩, fun h => ⟨h.1, h.2⟩⟩

theorem transferInstr_cases (hi : Bool) (src dst : XReg) :
    transferInstr hi src dst ∈ [.tap, .tpa, .tsx, .tsy, .txs, .tys] ∨
      transferInstr hi src dst = .sex hi src dst ∨ transferInstr hi src dst = .tfr hi src dst := by
  unfold transferInstr
  split <;> simp

theorem exchangeInstr_cases (hi : Bool) (src dst : XReg) :
    exchangeInstr hi src dst ∈ [.xgdx, .xgdy] ∨ exchangeInstr hi src dst = .exg hi src dst := by
  unfold exchangeInstr
  split <;> simp

section fits

variable {v : Version} {trap : Byte → Prop}

theorem fits_transferInstr {hi : Bool} (h : transferForm v hi = true) (src dst : XReg) :
    Fits v trap (transferInstr hi src dst) := by
  obtain hnamed | hsex | htfr := transferInstr_cases hi src dst
  · simp only [List.mem_cons, List.not_mem_nil, or_false] at hnamed
    obtain e | e | e | e | e | e := hnamed <;> simp [e, fits_iff, Instr.wf]
  · rw [hsex, fits_iff]
    exact ⟨(Bool.and_eq_true _ _).mpr ⟨h, beq_iff_eq.mpr hsex⟩, nofun⟩
  · rw [htfr, fits_iff]
    exact ⟨(Bool.and_eq_true _ _).mpr ⟨h, beq_iff_eq.mpr htfr⟩, nofun⟩

theorem fits_exchangeInstr {hi : Bool} (h : transferForm v hi = true) (src dst : XReg) :
    Fits v trap (exchangeInstr hi src dst) := by
  obtain hnamed | hexg := exchangeInstr_cases hi src dst
  · simp only [List.mem_cons, List.not_mem_nil, or_false] at hnamed
    obtain e | e := hnamed <;> simp [e, fits_iff, Instr.wf]
  · rw [hexg, fits_iff]
    exact ⟨(Bool.and_eq_true _ _).mpr ⟨h, beq_iff_eq.mpr hexg⟩, nofun⟩

theorem fits_transferOf (eb : Byte) : Fits v trap (transferOf v eb) := by
  have hform : transferForm v (eb.getLsbD 3 && v.isX) = true := by
    rw [transferForm]
    cases v.isX <;> simp
  rw [transferOf]
  split
  · exact fits_exchangeInstr hform _ _
  · exact fits_transferInstr hform _ _

theorem fits_of_loopOf {lb rr : Byte} {i : Instr} (h : loopOf lb rr = some i) : Fits v trap i := by
  obtain ⟨r, -, hi⟩ := Option.bind_eq_some_iff.mp h
  rw [loopInstrOf] at hi
  split_ifs at hi <;> cases hi <;> exact ⟨rfl, nofun⟩

theorem fits_nameLea {f : Indexed → Instr} (hf : f ∈ [Instr.leax, .leay, .leas]) {xb : Indexed}
    (h : xb.isDirect = true) : Fits v trap (nameLea (f xb)) := by
  simp only [List.mem_cons, List.not_mem_nil, or_false] at hf
  rw [nameLea]
  split_ifs with habx haby hdes hins
  · exact ⟨rfl, nofun⟩
  · exact ⟨rfl, nofun⟩
  · exact ⟨rfl, nofun⟩
  · exact ⟨rfl, nofun⟩
  · obtain rfl | rfl | rfl := hf
    · simpa [fits_iff, Instr.wf, h] using habx
    · simpa [fits_iff, Instr.wf, h] using haby
    · simpa [fits_iff, Instr.wf, h] using And.intro hdes hins

theorem fits_nameAndcc (mask : Byte) : Fits v trap (nameAndcc mask) := by
  rw [nameAndcc]
  split_ifs with hclc hcli hclv
  · exact ⟨rfl, nofun⟩
  · exact ⟨rfl, nofun⟩
  · exact ⟨rfl, nofun⟩
  · simp [fits_iff, Instr.wf, andccNamed, *]

theorem fits_nameOrcc (mask : Byte) : Fits v trap (nameOrcc mask) := by
  rw [nameOrcc]
  split_ifs with hsec hsei hsev
  · exact ⟨rfl, nofun⟩
  · exact ⟨rfl, nofun⟩
  · exact ⟨rfl, nofun⟩
  · simp [fits_iff, Instr.wf, orccNamed, *]

end fits

/-- Each entry of a row of a map that begins at position `start` gives what fits its position. -/
def RowFits (v : Version) (trap : Nat → Byte → Prop) (k start : Nat) (row : List Parser) : Prop :=
  ∀ x ∈ row.zipIdx start, Gives (Fits v (trap x.2)) k x.1

theorem page2Row0_fits (v : Version) : RowFits v (fun n tn => tn.toNat = n) 6 0x00 (page2Row0 v) := by
  have word {n : Nat} := gives_move (v := v) (Q := Fits v fun tn => tn.toNat = n) (f := .movw) gives_takeWord
    (Nat.le_refl 6) fun m hm => ⟨hm, nofun⟩
  have byte {n : Nat} := gives_move (v := v) (Q := Fits v fun tn => tn.toNat = n) (f := .movb)
    (gives_takeByte.mono (fun _ => id) (by decide)) (Nat.le_refl 6) fun m hm => ⟨hm, nofun⟩
  simp [RowFits, page2Row0, word, byte, gives_pInh, fits_iff, Instr.wf]

/-- Rows 1 and 2 of page 2, the same on every version (R132, R133). -/
theorem page2Row12_fits (v : Version) :
    RowFits v (fun n tn => tn.toNat = n) 6 0x10 page2Row1 ∧ RowFits v (fun n tn => tn.toNat = n) 6 0x20 page2Row2 := by
  constructor
  all_goals
    simp [RowFits, page2Row1, page2Row2, gives_pInh, gives_pWord, gives_pIdx, fits_iff, Instr.wf]

/-- Every entry of page 2 of CPU12 gives a well-formed instruction, TRAP only at its own position (R132). -/
theorem page2Cpu12_fits {v : Version} (hv : v.isX = false) :
    ∀ x ∈ (page2Cpu12 v).zipIdx, RowFits v (fun n tn => tn.toNat = n) 6 (16 * x.2) x.1 := by
  have row3 : RowFits v (fun n tn => tn.toNat = n) 6 0x30 page2Row3Cpu12 := by
    simp [RowFits, page2Row3Cpu12, gives_pInh, gives_pIdx, fits_iff, Instr.wf, unassigned, hv]
  simp [page2Cpu12, page2Row0_fits, page2Row12_fits, row3]

/-- Every entry of page 2 of CPU12X gives a well-formed instruction, TRAP only at its own position (R133). -/
theorem page2X_fits {v : Version} (hv : v.isX = true) :
    ∀ x ∈ (page2X v).zipIdx, RowFits v (fun n tn => tn.toNat = n) 6 (16 * x.2) x.1 := by
  simp only [page2X, List.zipIdx_cons, List.forall_mem_cons, List.zipIdx_nil, List.not_mem_nil, false_implies,
    implies_true, and_true]
  refine ⟨page2Row0_fits v, (page2Row12_fits v).1, (page2Row12_fits v).2, ?_⟩
  and_intros
  all_goals
    simp [RowFits, page2Row3, page2Row4, page2Row5, page2Row6, page2Row7, page2Row8, page2Row9, page2RowA, page2RowB,
      page2RowC, page2RowD, page2RowE, page2RowF, gives_pInh, gives_pByte, gives_pWord, gives_pIdx, Gives.thenMask,
      gives_takeDir, gives_takeExt, gives_takeIdx, pI16, pD16, pX16, pE16, pDM, pXM, pEM, pXE, pEE, fits_iff, Instr.wf,
      hv, unassigned]

/-- An entry of a map stands in the row of its high digit, at the column of its low digit. -/
theorem gives_of_mapEntry {v : Version} {trap : Nat → Byte → Prop} {k : Nat} {rows : List (List Parser)}
    (hrows : ∀ x ∈ rows.zipIdx, RowFits v trap k (16 * x.2) x.1) {b : Byte} {p : Parser}
    (h : mapEntry rows b = some p) : Gives (Fits v (trap b.toNat)) k p := by
  unfold mapEntry at h
  split at h
  · cases h
  · next row hrow =>
    have hpos : 16 * (b.toNat / 16) + b.toNat % 16 = b.toNat := Nat.div_add_mod b.toNat 16
    have hx := (List.mk_add_mem_zipIdx_iff_getElem? (k := 16 * (b.toNat / 16))).mpr h
    rw [hpos] at hx
    exact hrows (row, b.toNat / 16) (List.mk_mem_zipIdx_iff_getElem?.mpr hrow) (p, b.toNat) hx

/-- Where rows of sixteen end there is no entry. -/
theorem mapEntry_eq_none_iff {rows : List (List Parser)} (h : ∀ row ∈ rows, row.length = 16) (b : Byte) :
    mapEntry rows b = none ↔ 16 * rows.length ≤ b.toNat := by
  unfold mapEntry
  split
  · next hnone =>
    have hlen := List.getElem?_eq_none_iff.mp hnone
    exact ⟨fun _ => by omega, fun _ => rfl⟩
  · next row hrow =>
    obtain ⟨hlt, hmem⟩ := List.getElem?_eq_some_iff.mp hrow
    rw [List.getElem?_eq_none_iff, h row (hmem ▸ List.getElem_mem hlt)]
    omega

theorem page1_rows (v : Version) : ∀ row ∈ page1 v, row.length = 16 := by
  simp only [page1, List.forall_mem_cons, List.not_mem_nil, false_implies, implies_true, and_true]
  and_intros <;> rfl

theorem page2X_rows (v : Version) : ∀ row ∈ page2X v, row.length = 16 := by
  simp only [page2X, List.forall_mem_cons, List.not_mem_nil, false_implies, implies_true, and_true]
  and_intros <;> rfl

theorem page2Cpu12_rows (v : Version) : ∀ row ∈ page2Cpu12 v, row.length = 16 := by
  simp only [page2Cpu12, List.forall_mem_cons, List.not_mem_nil, false_implies, implies_true, and_true]
  and_intros <;> rfl

/-- What page 2 gives at a position: its entry's instruction or, past CPU12's four rows, TRAP (R128, R132, R133). -/
theorem gives_pPage2_at (v : Version) (tn : Byte) :
    Gives (Fits v fun n => n = tn) 6 fun bs => pPage2 v (tn :: bs) := by
  have fromPosition : ∀ i, Fits v (fun n => n.toNat = tn.toNat) i → Fits v (fun n => n = tn) i := fun i h =>
    ⟨h.wf, fun n hn => BitVec.eq_of_toNat_eq (h.trap n hn)⟩
  have hopens {p : Parser} (h : Opens (pPage2 v) tn p) : (fun bs => pPage2 v (tn :: bs)) = p := funext h
  cases hv : v.isX with
  | true =>
    have hentry : mapEntry (page2X v) tn ≠ none := by
      rw [Ne, mapEntry_eq_none_iff (page2X_rows v)]
      exact Nat.not_le.mpr tn.isLt
    obtain ⟨p, hp⟩ := Option.ne_none_iff_exists'.mp hentry
    rw [hopens (page2X_opens hv hp)]
    exact (gives_of_mapEntry (page2X_fits hv) hp).mono fromPosition (Nat.le_refl 6)
  | false =>
    cases hp : mapEntry (page2Cpu12 v) tn with
    | some p =>
      rw [hopens (page2_opens (by rw [hv]; exact hp))]
      exact (gives_of_mapEntry (page2Cpu12_fits hv) hp).mono fromPosition (Nat.le_refl 6)
    | none =>
      rw [hopens (page2_opens_trap (by rw [hv]; exact hp))]
      have hhigh : 0x40 ≤ tn.toNat := (mapEntry_eq_none_iff (page2Cpu12_rows v) tn).mp hp
      refine gives_pInh ⟨(unassigned_of_not_isX hv tn).mpr (.inr hhigh), ?_⟩
      rintro _ ⟨⟩
      rfl

theorem gives_pPage2 (v : Version) : Gives (Fits v fun _ => True) 7 (pPage2 v) := by
  have hhead : pPage2 v = andThen takeByte fun tn bs => pPage2 v (tn :: bs) := by
    funext bs
    cases bs <;> rfl
  rw [hhead]
  exact gives_takeByte.andThen fun tn _ => (gives_pPage2_at v tn).mono (fun i h => ⟨h.wf, fun _ _ => trivial⟩)
    (Nat.le_refl 6)

/-- Every entry of page 1 gives a well-formed instruction, and TRAP only after the prebyte (R130). -/
theorem page1_fits (v : Version) : ∀ x ∈ (page1 v).zipIdx, RowFits v (fun n _ => n = 0x18) 7 (16 * x.2) x.1 := by
  have lea {f : Indexed → Instr} {trap : Byte → Prop} (hf : f ∈ [Instr.leax, .leay, .leas]) :
      Gives (Fits v trap) 7 (pLea f) := gives_pIdx (by decide) fun xb => fits_nameLea hf
  have andcc {trap : Byte → Prop} : Gives (Fits v trap) 7 (pByte nameAndcc) := gives_pByte (by decide) fits_nameAndcc
  have orcc {trap : Byte → Prop} : Gives (Fits v trap) 7 (pByte nameOrcc) := gives_pByte (by decide) fits_nameOrcc
  have transfer {trap : Byte → Prop} : Gives (Fits v trap) 7 (pTransfer v) :=
    gives_pTransfer (by decide) fits_transferOf
  have loop {trap : Byte → Prop} : Gives (Fits v trap) 7 pLoop := gives_pLoop (by decide) fun _ _ _ => fits_of_loopOf
  simp only [page1, List.zipIdx_cons, List.forall_mem_cons, List.zipIdx_nil, List.not_mem_nil, false_implies,
    implies_true, and_true]
  and_intros
  all_goals
    simp [RowFits, page1Row0, page1Row1, page1Row2, page1Row3, page1Row4, page1Row5, page1Row6, page1Row7, page1Row8,
      page1Row9, page1RowA, page1RowB, page1RowC, page1RowD, page1RowE, page1RowF, lea, andcc, orcc, transfer, loop,
      gives_pPage2, gives_pInh, gives_pByte, gives_pWord, gives_pIdx, Gives.thenMask, Gives.thenMaskRel, gives_takeDir,
      gives_takeExt, gives_takeIdx, gives_pCallExt, gives_pCallIdx, pI8, pD8, pX8, pE8, pI16, pD16, pX16, pE16, pDM,
      pXM, pEM, pXE, pEE, fits_iff, Instr.wf]

/-- What the decoder gives at an opcode: its entry's instruction, since every byte has one (R130). -/
theorem gives_decode_at (v : Version) (op : Byte) :
    Gives (Fits v fun _ => op = 0x18) 7 fun bs => decode v (op :: bs) := by
  have hentry : mapEntry (page1 v) op ≠ none := by
    rw [Ne, mapEntry_eq_none_iff (page1_rows v)]
    exact Nat.not_le.mpr op.isLt
  obtain ⟨p, hp⟩ := Option.ne_none_iff_exists'.mp hentry
  have hopens : (fun bs => decode v (op :: bs)) = p := funext (page1_opens hp)
  rw [hopens]
  exact (gives_of_mapEntry (page1_fits v) hp).mono
    (fun i h => ⟨h.wf, fun tn htn => BitVec.eq_of_toNat_eq (h.trap tn htn)⟩) (Nat.le_refl 7)

theorem gives_decode (v : Version) : Gives (fun i => i.wf v = true) 8 (decode v) := by
  have hhead : decode v = andThen takeByte fun op bs => decode v (op :: bs) := by
    funext bs
    cases bs <;> rfl
  rw [hhead]
  exact gives_takeByte.andThen fun op _ => (gives_decode_at v op).mono (fun i h => h.wf) (Nat.le_refl 7)

/-- No instruction is read from no bytes (R91). -/
theorem decode_nil_ne_ok (v : Version) (x : Instr × List Byte) : decode v [] ≠ .ok x := nofun

/-- Settles O2, from what every entry of the maps gives; the opcode itself is the one byte that is always taken. -/
theorem decodedIsWellFormed : Obligations.DecodedIsWellFormed := by
  refine ⟨fun v bs i rest h => ?_, fun v bs hlen he => ?_⟩
  · cases bs with
    | nil => exact absurd h (decode_nil_ne_ok v _)
    | cons op bs =>
      obtain ⟨hfits, taken, rfl, hlen⟩ := (gives_decode_at v op bs).1 i rest h
      exact ⟨hfits.wf, op :: taken, rfl, Nat.succ_pos _, Nat.succ_le_succ hlen⟩
  · exact absurd ((gives_decode v bs).2 he) (Nat.not_lt.mpr hlen)

/-- A TRAP comes from the two bytes of its encoding (R128). -/
theorem eq_of_decode_trap {v : Version} {bs r : List Byte} {tn : Byte} (h : decode v bs = .ok (.trap tn, r)) :
    unassigned v tn = true ∧ bs = 0x18 :: tn :: r := by
  match bs with
  | [] => exact absurd h (decode_nil_ne_ok v _)
  | op :: bs =>
    obtain ⟨⟨hwf, hop⟩, -⟩ := (gives_decode_at v op bs).1 _ _ h
    obtain rfl := hop tn rfl
    have hpage : pPage2 v bs = .ok (.trap tn, r) := (prebyte_opens v bs).symm.trans h
    match bs with
    | [] => cases hpage
    | n :: bs =>
      obtain ⟨⟨-, hn⟩, -⟩ := (gives_pPage2_at v n bs).1 _ _ hpage
      obtain rfl := hn tn rfl
      have hread : pPage2 v (tn :: bs) = .ok (.trap tn, bs) := reads_trap hwf bs
      rw [hread] at hpage
      cases hpage
      exact ⟨hwf, rfl⟩

/-- A fuzzy instruction that the version has not is the unimplemented opcode trap (R131, R470). -/
theorem State.fuzzy_of_not_hasFuzzy {s : State} (h : s.cfg.version.hasFuzzy = false) (f : State → State) :
    s.fuzzy f = s.trap := by
  rw [State.fuzzy, h]
  rfl

/-- The five fuzzy instructions run as TRAP on a version without them (R131). -/
theorem exec_fuzzy_eq_trap {s : State} (h : s.cfg.version.hasFuzzy = false) {i : Instr}
    (hi : i ∈ [.mem, .wavr, .rev, .revw, .wav]) (tn : Byte) : exec i s = exec (.trap tn) s := by
  simp only [List.mem_cons, List.not_mem_nil, or_false] at hi
  obtain rfl | rfl | rfl | rfl | rfl := hi <;> exact congrArg Host.Outcome.next (State.fuzzy_of_not_hasFuzzy h _)

/-- SYS runs as TRAP on a version without it (R545). -/
theorem exec_sys_eq_trap {s : State} (h : s.cfg.version.hasSYS = false) (tn : Byte) :
    exec .sys s = exec (.trap tn) s := by
  have hcall : s.systemCall = s.trap := by
    rw [State.systemCall, h]
    rfl
  exact congrArg Host.Outcome.next hcall

/-- Settles O6: the unassigned positions read as TRAP by `reads_encode`, those of SYS and of the fuzzy instructions by
what `exec` makes of them, and no others by `eq_of_decode_trap`. -/
theorem unassignedOpcodesTrap : Obligations.UnassignedOpcodesTrap := by
  unfold Obligations.UnassignedOpcodesTrap
  intro positions traps
  have hmem : ∀ v n, n ∈ positions v ↔
      n < 256 ∧ (unassigned v (BitVec.ofNat 8 n) = true ∨ (n = 0xA7 ∧ v = .cpu12xv0)) := by
    intro v n
    by_cases hn : n < 256
    · have hmod : n % 256 = n := Nat.mod_eq_of_lt hn
      cases hv : v.isX with
      | true =>
        simp [positions, hv, hn, unassigned, hmod]
        grind
      | false =>
        have hne : v ≠ .cpu12xv0 := by
          rintro rfl
          cases hv
        simp [positions, hv, hn, unassigned, hmod, hne]
    · simp only [positions]
      split <;> simp [hn]
  refine ⟨rfl, fun v rest => ⟨fun n hn => ?position, fun hv opcode hop => ?fuzzy, fun bs tn r h => ?only⟩⟩
  case position =>
    obtain ⟨-, hun | ⟨rfl, rfl⟩⟩ := (hmem v n).mp hn
    · exact ⟨_, reads_encode (i := .trap (BitVec.ofNat 8 n)) hun rest, fun _ _ _ => rfl⟩
    · exact ⟨.sys, rfl, fun s tn hs => exec_sys_eq_trap (by rw [hs]; rfl) tn⟩
  case fuzzy =>
    have trapsTo (i : Instr) (hi : i ∈ [Instr.mem, .wavr, .rev, .revw, .wav]) (hwf : i.wf v = true) :
        traps v (encode i) rest :=
      ⟨i, reads_encode hwf rest, fun s tn hs => exec_fuzzy_eq_trap (by rw [hs, hv]) hi tn⟩
    simp only [List.mem_cons, List.not_mem_nil, or_false] at hop
    obtain rfl | rfl | rfl | rfl | rfl := hop
    · exact trapsTo .mem (by simp) rfl
    · exact trapsTo .wavr (by simp) rfl
    · exact trapsTo .rev (by simp) rfl
    · exact trapsTo .revw (by simp) rfl
    · exact trapsTo .wav (by simp) rfl
  case only =>
    obtain ⟨hun, hbs⟩ := eq_of_decode_trap h
    refine ⟨(hmem v tn.toNat).mpr ⟨tn.isLt, .inl ?_⟩, hbs⟩
    rwa [BitVec.ofNat_toNat, BitVec.setWidth_eq]

end Sys2Proof.Machine
end

section
/-!
SUPPORT. How loads, stores and moves end (40_load_store_transfer_move.md R150, R160, R170, R216): registers and flags
changed and no byte, or one byte or word stored, and what each end leaves.
-/

namespace Sys2Proof.Machine

/-! ## Registers changed and nothing else -/

/-- From `s` to `t` at most A, B, X, Y and SP change. -/
structure State.RegsOnly (s t : State) : Prop where
  ccr : t.ccr = s.ccr
  pc : t.pc = s.pc
  special : t.special = s.special
  bus : t.bus = s.bus
  marks : t.marks = s.marks

theorem State.RegsOnly.trans {s t u : State} (h : s.RegsOnly t) (g : t.RegsOnly u) : s.RegsOnly u :=
  ⟨g.ccr.trans h.ccr, g.pc.trans h.pc, g.special.trans h.special, g.bus.trans h.bus, g.marks.trans h.marks⟩

theorem State.regsOnly_refl (s : State) : s.RegsOnly s := ⟨rfl, rfl, rfl, rfl, rfl⟩

/-- An addressing mode moves a register at most. -/
theorem State.regsOnly_of_modeOnly {s t : State} {r : Option AutoReg} (h : s.modeOnly t r) : s.RegsOnly t :=
  ⟨State.modeOnly_ccr h, State.modeOnly_pc h, State.modeOnly_special h, State.modeOnly_bus h,
    State.marks_eq.mpr ⟨State.modeOnly_stale h, State.modeOnly_pageStored h⟩⟩

theorem State.regsOnly_setAcc (s : State) (r : Acc) (v : Byte) : s.RegsOnly (s.setAcc r v) := by
  cases r <;> exact ⟨rfl, rfl, rfl, rfl, rfl⟩

theorem State.regsOnly_setAutoReg (s : State) (r : AutoReg) (v : Word) : s.RegsOnly (s.setAutoReg r v) := by
  cases r <;> exact ⟨rfl, rfl, rfl, rfl, rfl⟩

theorem State.regsOnly_setD (s : State) (v : Word) : s.RegsOnly (s.setD v) := ⟨rfl, rfl, rfl, rfl, rfl⟩

/-- An instruction without a memory operand that changes registers and flags is still. -/
theorem State.RegsOnly.still {s t : State} (h : s.RegsOnly t) (f : Ccr) : s.still (t.setCcr f) :=
  State.still_of_bus h.pc h.special h.bus h.marks

/-- An instruction that changes registers and flags after its operand's mode has led from `s` to `s1`. -/
theorem State.RegsOnly.frame {s s1 t : State} {target : Option AutoReg} (h : s1.RegsOnly t)
    (hm : s.modeOnly s1 target) (f : Ccr) : s.frame s1 (t.setCcr f) target [] :=
  State.frame_of_bus hm h.pc h.special h.bus h.marks

/-- Equal states are equal answers. -/
theorem next_congr {s t : State} (h : s = t) : (.next s : Result) = .next t := congrArg Host.Outcome.next h

/-- The flags of a value loaded or stored, at the end of an instruction that has changed no flag yet. -/
theorem State.flags_nzv0 {s t : State} (h : t.ccr = s.ccr) {n : Nat} (v : BitVec n) :
    t.flags (·.nzv0 v) = t.setCcr (loadedCcr s.ccr v) := by
  rw [State.flags, nzv0_eq_loadedCcr, h]

/-! ## Loads (R150, R157, R170) -/

/-- A load ends: the flags of the value, and registers changed since the addressing mode. -/
theorem State.RegsOnly.loaded {s s1 t : State} {target : Option AutoReg} (h : s1.RegsOnly t)
    (hm : s.modeOnly s1 target) {n : Nat} (v : BitVec n) :
    (t.flags (·.nzv0 v)).regs = t.regs ∧ (t.flags (·.nzv0 v)).ccr = loadedCcr s.ccr v ∧
      s.frame s1 (t.flags (·.nzv0 v)) target [] := by
  rw [State.flags_nzv0 (h.ccr.trans (State.modeOnly_ccr hm))]
  exact ⟨rfl, rfl, h.frame hm _⟩

/-- A loaded index register takes the value, or keeps what its own auto-modify mode gave it (U3). -/
theorem State.setLoaded_cases (s : State) (r : AutoReg) (target : Option AutoReg) (v : Word) :
    s.setLoaded r target v = s.setAutoReg r v ∨ (target = some r ∧ s.setLoaded r target v = s) := by
  unfold State.setLoaded
  split
  · next h =>
    obtain ⟨htarget, -⟩ := (Bool.and_eq_true _ _).mp h
    exact .inr ⟨beq_iff_eq.mp htarget, rfl⟩
  · exact .inl rfl

/-- A load of X, Y or SP ends. -/
theorem State.loaded_index {s s1 : State} {target : Option AutoReg} (hm : s.modeOnly s1 target) (r : AutoReg)
    (v : Word) :
    let t := (s1.setLoaded r target v).flags (·.nzv0 v)
    (t.regs = (s1.setAutoReg r v).regs ∨ (target = some r ∧ t.regs = s1.regs)) ∧ t.ccr = loadedCcr s.ccr v ∧
      s.frame s1 t target [] := by
  obtain h | ⟨htarget, h⟩ := s1.setLoaded_cases r target v
  · obtain ⟨hregs, hrest⟩ := (s1.regsOnly_setAutoReg r v).loaded hm v
    rw [h]
    exact ⟨.inl hregs, hrest⟩
  · obtain ⟨hregs, hrest⟩ := s1.regsOnly_refl.loaded hm v
    rw [h]
    exact ⟨.inr ⟨htarget, hregs⟩, hrest⟩

/-- LEAX, LEAY and LEAS end: no flag (R157). -/
theorem State.loadAddress_spec (s : State) (r : AutoReg) (op : Indexed) :
    (s.loadAddress r op).regs = ((s.indexed op).2.setAutoReg r (s.indexed op).1).regs ∧
      (s.loadAddress r op).ccr = s.ccr ∧
      s.frame (s.indexed op).2 (s.loadAddress r op) (Indexed.autoTarget op) [] := by
  have hmode : s.modeOnly (s.indexed op).2 (Indexed.autoTarget op) := s.indexedFrom_modeOnly s.pc op
  have hset := (s.indexed op).2.regsOnly_setAutoReg r (s.indexed op).1
  exact ⟨rfl, hset.ccr.trans (s.indexed_ccr op), hset.frame hmode _⟩

/-- Settles O18: each load ends as `State.RegsOnly.loaded` says, from its operand's mode. -/
theorem loadsTakeTheOperand : Obligations.LoadsTakeTheOperand := by
  refine ⟨fun s op => ?byte, fun s op => ⟨?d, ?index⟩, fun s op => ?address⟩
  case byte =>
    have load (r : Acc) := ((s.src8 op).2.regsOnly_setAcc r (s.src8 op).1).loaded (s.src8_modeOnly op) (s.src8 op).1
    simp only [List.forall_mem_cons, List.not_mem_nil, false_implies, implies_true, and_true]
    exact ⟨⟨_, rfl, load .a⟩, ⟨_, rfl, load .b⟩⟩
  case d => exact ⟨_, rfl, ((s.src16 op).2.regsOnly_setD _).loaded (s.src16_modeOnly op) _⟩
  case index =>
    have load (r : AutoReg) := State.loaded_index (s.src16_modeOnly op) r (s.src16 op).1
    simp only [List.forall_mem_cons, List.not_mem_nil, false_implies, implies_true, and_true]
    exact ⟨⟨_, rfl, load .x⟩, ⟨_, rfl, load .y⟩, ⟨_, rfl, load .sp⟩⟩
  case address =>
    simp only [List.forall_mem_cons, List.not_mem_nil, false_implies, implies_true, and_true]
    exact ⟨⟨_, rfl, s.loadAddress_spec .x op⟩, ⟨_, rfl, s.loadAddress_spec .y op⟩, ⟨_, rfl, s.loadAddress_spec .sp op⟩⟩

/-! ## Stores (R160) -/

/-- A store of a byte ends: the flags of the value, the byte at the address. -/
theorem State.stored_byte {s s1 : State} {target : Option AutoReg} (hm : s.modeOnly s1 target) (a : Word) (v : Byte) :
    let t := (s1.write8 a v).flags (·.nzv0 v)
    t.regs = s1.regs ∧ t.ccr = loadedCcr s.ccr v ∧ s1.storedByte t a v ∧ s.frame s1 t target [s1.locate a] := by
  rw [State.flags_nzv0 ((s1.write8_ccr a v).trans (State.modeOnly_ccr hm))]
  exact ⟨by simp, rfl, State.storedByte_write8 s1 a v _, State.frame_of_write8 hm a v _⟩

/-- A store of a word ends likewise. -/
theorem State.stored_word {s s1 : State} {target : Option AutoReg} (hm : s.modeOnly s1 target) (a v : Word) :
    let t := (s1.write16 a v).flags (·.nzv0 v)
    t.regs = s1.regs ∧ t.ccr = loadedCcr s.ccr v ∧ s1.storedWord t a v ∧ s.frame s1 t target (s1.wordLocs a v) := by
  rw [State.flags_nzv0 ((s1.write16_ccr a v).trans (State.modeOnly_ccr hm))]
  exact ⟨by simp, rfl, State.storedWord_write16 s1 a v _, State.frame_of_write16 hm a v _⟩

/-- A stored index register gives its value after the addressing mode, or before it where the mode moves it (U3). -/
theorem State.storedIndex_cases (s s1 : State) (r : AutoReg) (target : Option AutoReg) :
    s.storedIndex s1 r target = s1.autoReg r ∨ (target = some r ∧ s.storedIndex s1 r target = s.autoReg r) := by
  unfold State.storedIndex
  split
  · next h =>
    obtain ⟨htarget, -⟩ := (Bool.and_eq_true _ _).mp h
    exact .inr ⟨beq_iff_eq.mp htarget, rfl⟩
  · exact .inl rfl

/-- No addressing mode moves an accumulator. -/
theorem State.ea_acc (s : State) (op : DirExtIdx) (r : Acc) : (s.ea op).2.acc r = s.acc r := by
  cases r
  · exact s.ea_a op
  · exact s.ea_b op

theorem State.ea_d (s : State) (op : DirExtIdx) : (s.ea op).2.d = s.d := by
  rw [State.d, State.d, s.ea_a, s.ea_b]

theorem State.storeAcc_eq (s : State) (r : Acc) (op : DirExtIdx) :
    s.storeAcc r op = ((s.ea op).2.write8 (s.ea op).1 (s.acc r)).flags (·.nzv0 (s.acc r)) := by
  rw [← s.ea_acc op]
  rfl

theorem State.storeD_eq (s : State) (op : DirExtIdx) :
    s.storeD op = ((s.ea op).2.write16 (s.ea op).1 s.d).flags (·.nzv0 s.d) := by
  rw [← s.ea_d op]
  rfl

/-- Settles O19: each store ends as `State.stored_byte` or `State.stored_word` says, from its operand's mode. -/
theorem storesWriteTheRegister : Obligations.StoresWriteTheRegister := by
  refine fun s op => ⟨?byte, ?d, ?index⟩
  case byte =>
    have result (r : Acc) := next_congr (s.storeAcc_eq r op)
    have store (r : Acc) := State.stored_byte (s.ea_modeOnly op) (s.ea op).1 (s.acc r)
    simp only [List.forall_mem_cons, List.not_mem_nil, false_implies, implies_true, and_true]
    exact ⟨⟨_, result .a, store .a⟩, ⟨_, result .b, store .b⟩⟩
  case d => exact ⟨_, next_congr (s.storeD_eq op), State.stored_word (s.ea_modeOnly op) _ _⟩
  case index =>
    have store (r : AutoReg) := State.stored_word (s.ea_modeOnly op) (s.ea op).1
      (s.storedIndex (s.ea op).2 r (DirExtIdx.autoTarget op))
    have value (r : AutoReg) := s.storedIndex_cases (s.ea op).2 r (DirExtIdx.autoTarget op)
    simp only [List.forall_mem_cons, List.not_mem_nil, false_implies, implies_true, and_true]
    exact ⟨⟨_, value .x, _, rfl, store .x⟩, ⟨_, value .y, _, rfl, store .y⟩, ⟨_, value .sp, _, rfl, store .sp⟩⟩

/-! ## Global loads and stores (R170 to R184) -/

/-- States with one bus read global memory alike. -/
theorem State.gread8_of_bus {s t : State} (h : t.bus = s.bus) (p : BitVec 7) (a : Word) :
    t.gread8 p a = s.gread8 p a := by
  obtain ⟨hloc, -, -⟩ := State.global_of_bus h a (globalKey p a)
  rw [State.gread8, State.gread8, hloc, State.peek_of_bus h]

/-- States with one bus read the word of GPAGE alike. -/
theorem State.gread16_of_bus {s t : State} (h : t.bus = s.bus) (a : Word) : t.gread16 a = s.gread16 a := by
  obtain ⟨-, hpage, hnext⟩ := State.global_of_bus h a 0
  rw [State.gread16, State.gread16, State.gread8_of_bus h, State.gread8_of_bus h, hpage, hnext]

/-- States with one bus keep alike at a location what is stored there. -/
theorem State.kept_of_bus {s t : State} (h : t.bus = s.bus) (l : Loc) (v : Byte) : t.kept l v = s.kept l v := by
  have hpeek := State.peek_of_bus h
  simp only [State.bus, Prod.mk.injEq] at h
  obtain ⟨hcfg, -, -, -, -, -, htick⟩ := h
  cases l <;> simp only [State.kept, hcfg, hpeek, State.gpageByte_of_tick htick]

/-- States with one bus find the bytes of a global word at the same locations. -/
theorem State.globalLocs_of_bus {s t : State} (h : t.bus = s.bus) (a : Word) : t.globalLocs a = s.globalLocs a := by
  obtain ⟨-, hpage, hnext⟩ := State.global_of_bus h a 0
  have hloc (k : Nat) := (State.global_of_bus h a k).1
  simp only [State.globalLocs, hpage, hnext, hloc]

/-- A store of a byte of global memory ends: the flags of the value, the byte at GPAGE and the address. -/
theorem State.gstored_byte {s s1 : State} {target : Option AutoReg} (hm : s.modeOnly s1 target) (a : Word)
    (v : Byte) :
    let t := (s1.gwrite8 s.gpage a v).flags (·.nzv0 v)
    let hi := s.locAt (globalKey s.gpage a)
    t.regs = s1.regs ∧ t.ccr = loadedCcr s.ccr v ∧ t.peek hi = s.kept hi v ∧ s.frame s1 t target [hi] := by
  have hbus : s1.bus = s.bus := State.modeOnly_bus hm
  have hloc := (State.global_of_bus hbus a (globalKey s.gpage a)).1
  rw [State.flags_nzv0 ((s1.gwrite8_ccr _ a v).trans (State.modeOnly_ccr hm)), ← hloc]
  refine ⟨by simp, rfl, ?_, State.frame_of_gwrite8 hm s.gpage a v _⟩
  rw [State.peek_setCcr, State.gwrite8, State.peek_store_same, State.kept_of_bus hbus]

/-- A store of a word of global memory ends likewise, its second byte at the next address (R171). -/
theorem State.gstored_word {s s1 : State} {target : Option AutoReg} (hm : s.modeOnly s1 target) (a v : Word) :
    let t := (s1.gwrite16 a v).flags (·.nzv0 v)
    let hi := s.locAt (globalKey s.gpage a)
    let lo := s.locAt (globalKey (s.gnextPage a) (a + 1#16))
    t.regs = s1.regs ∧ t.ccr = loadedCcr s.ccr v ∧ t.peek hi = s.kept hi (hiByte v) ∧ t.peek lo = s.kept lo (loByte v) ∧
      s.frame s1 t target [hi, lo] := by
  have hbus : s1.bus = s.bus := State.modeOnly_bus hm
  have hlocs : [_, _] = [_, _] := State.globalLocs_of_bus hbus a
  obtain ⟨hhi, hlo⟩ := List.cons.inj hlocs
  obtain ⟨hfirst, hsecond, -⟩ := s1.peek_gwrite16 a v
  rw [State.flags_nzv0 ((s1.gwrite16_ccr a v).trans (State.modeOnly_ccr hm))]
  refine ⟨by simp, rfl, ?_, ?_, hlocs ▸ State.frame_of_gwrite16 hm a v _⟩
  · rw [State.peek_setCcr, ← hhi, hfirst, State.kept_of_bus hbus]
  · rw [State.peek_setCcr, ← (List.cons.inj hlo).1, hsecond, State.kept_of_bus hbus]

theorem State.gloadAcc_eq (s : State) (r : Acc) (op : DirExtIdx) :
    s.gloadAcc r op = ((s.ea op).2.setAcc r (s.gread8 s.gpage (s.ea op).1)).flags
      (·.nzv0 (s.gread8 s.gpage (s.ea op).1)) := by
  rw [← State.gread8_of_bus (s.ea_bus op), ← s.ea_gpage op]
  rfl

theorem State.gloadD_eq (s : State) (op : DirExtIdx) :
    s.gloadD op = ((s.ea op).2.setD (s.gread16 (s.ea op).1)).flags (·.nzv0 (s.gread16 (s.ea op).1)) := by
  rw [← State.gread16_of_bus (s.ea_bus op)]
  rfl

theorem State.gloadIndex_eq (s : State) (r : AutoReg) (op : DirExtIdx) :
    s.gloadIndex r op = ((s.ea op).2.setLoaded r (DirExtIdx.autoTarget op) (s.gread16 (s.ea op).1)).flags
      (·.nzv0 (s.gread16 (s.ea op).1)) := by
  rw [← State.gread16_of_bus (s.ea_bus op)]
  rfl

theorem State.gstoreAcc_eq (s : State) (r : Acc) (op : DirExtIdx) :
    s.gstoreAcc r op = ((s.ea op).2.gwrite8 s.gpage (s.ea op).1 (s.acc r)).flags (·.nzv0 (s.acc r)) := by
  rw [← s.ea_acc op, ← s.ea_gpage op]
  rfl

theorem State.gstoreD_eq (s : State) (op : DirExtIdx) :
    s.gstoreD op = ((s.ea op).2.gwrite16 (s.ea op).1 s.d).flags (·.nzv0 s.d) := by
  rw [← s.ea_d op]
  rfl

/-- Settles O20: the loads and stores end as their twins do, on the bus that the operand's mode has left alone. -/
theorem globalLoadsAndStores : Obligations.GlobalLoadsAndStores := by
  refine ⟨fun s op => ⟨?loadByte, ?loadD, ?loadIndex⟩, fun s op => ⟨?storeByte, ?storeD, ?storeIndex⟩⟩
  case loadByte =>
    have result (r : Acc) := next_congr (s.gloadAcc_eq r op)
    have load (r : Acc) := ((s.ea op).2.regsOnly_setAcc r (s.gread8 s.gpage (s.ea op).1)).loaded (s.ea_modeOnly op)
      (s.gread8 s.gpage (s.ea op).1)
    simp only [List.forall_mem_cons, List.not_mem_nil, false_implies, implies_true, and_true]
    exact ⟨⟨_, result .a, load .a⟩, ⟨_, result .b, load .b⟩⟩
  case loadD =>
    exact ⟨_, next_congr (s.gloadD_eq op), ((s.ea op).2.regsOnly_setD _).loaded (s.ea_modeOnly op) _⟩
  case loadIndex =>
    have result (r : AutoReg) := next_congr (s.gloadIndex_eq r op)
    have load (r : AutoReg) := State.loaded_index (s.ea_modeOnly op) r (s.gread16 (s.ea op).1)
    simp only [List.forall_mem_cons, List.not_mem_nil, false_implies, implies_true, and_true]
    exact ⟨⟨_, result .x, load .x⟩, ⟨_, result .y, load .y⟩, ⟨_, result .sp, load .sp⟩⟩
  case storeByte =>
    have result (r : Acc) := next_congr (s.gstoreAcc_eq r op)
    have store (r : Acc) := State.gstored_byte (s.ea_modeOnly op) (s.ea op).1 (s.acc r)
    simp only [List.forall_mem_cons, List.not_mem_nil, false_implies, implies_true, and_true]
    exact ⟨⟨_, result .a, store .a⟩, ⟨_, result .b, store .b⟩⟩
  case storeD =>
    have store := State.gstored_word (s.ea_modeOnly op) (s.ea op).1 s.d
    simp only [State.d, hiByte_join, loByte_join] at store
    exact ⟨_, next_congr (s.gstoreD_eq op), store⟩
  case storeIndex =>
    have store (r : AutoReg) := State.gstored_word (s.ea_modeOnly op) (s.ea op).1
      (s.storedIndex (s.ea op).2 r (DirExtIdx.autoTarget op))
    have value (r : AutoReg) := s.storedIndex_cases (s.ea op).2 r (DirExtIdx.autoTarget op)
    simp only [List.forall_mem_cons, List.not_mem_nil, false_implies, implies_true, and_true]
    exact ⟨⟨_, value .x, _, rfl, store .x⟩, ⟨_, value .y, _, rfl, store .y⟩, ⟨_, value .sp, _, rfl, store .sp⟩⟩

end Sys2Proof.Machine
end

section
/-!
SUPPORT. The write paths of the CCR and the instructions that mask it (40_load_store_transfer_move.md R200, R201;
42_compare_logic_clr_com_neg.md R340 to R347).
-/

namespace Sys2Proof.Machine

/-- The bits a CCR write leaves (R200, R28). -/
theorem writtenCcr_eq_offeredCcr (user : Bool) (old : Ccr) (v : Byte) :
    writtenCcr user old v = offeredCcr user old v.getLsbD := by
  cases user <;> rfl

/-- What is left depends on the eight bits offered alone. -/
theorem offeredCcr_congr {f g : Nat → Bool} (h : ∀ k < 8, f k = g k) (user : Bool) (old : Ccr) :
    offeredCcr user old f = offeredCcr user old g := by
  simp only [offeredCcr, h, Nat.reduceLT]

/-- A CCR write changes the CCR and the inhibit (R200, R692). -/
theorem State.writeCcr_eq (s : State) (v : Byte) :
    s.writeCcr v = (s.setCcr (offeredCcr s.userState s.ccr v.getLsbD)).setIDelay
      (s.iDelay || s.ccr.i && !(offeredCcr s.userState s.ccr v.getLsbD).i) := by
  rw [State.writeCcr, State.writeCcrAs_eq, writtenCcr_eq_offeredCcr]

/-- The CCRH a write leaves on CPU12X (R201, R26). -/
theorem writtenCcrh_of_isX {version : Version} (h : version.isX = true) (user : Bool) (old : Ccrh) (v : Byte) :
    writtenCcrh version user old v =
      if user then old else { u := version.hasUser && v.getLsbD 7, ipl := v.extractLsb' 0 3 } := by
  rw [writtenCcrh, h]
  rfl

/-- A CCRW write is a CCRH write and, under the privilege of before, a CCR write (R201). -/
theorem State.writeCcrw_eq_writes (s : State) (w : Word) :
    s.writeCcrw w =
      ((s.writeCcrh (hiByte w)).setCcr (s.writeCcr (loByte w)).ccr).setIDelay (s.writeCcr (loByte w)).iDelay := by
  rw [State.writeCcrw, State.writeCcrAs_eq, State.writeCcr_ccr, State.writeCcr_iDelay]
  rfl

/-- An instruction that writes the CCR ends: the bits offered, the inhibit, and nothing else. -/
theorem State.writeCcr_spec (s : State) {v : Byte} {offered : Nat → Bool} (h : ∀ k < 8, v.getLsbD k = offered k) :
    let t := s.writeCcr v
    t.regs = s.regs ∧ t.ccr = offeredCcr s.userState s.ccr offered ∧ t.iDelay = (s.iDelay || s.ccr.i && !t.ccr.i) ∧
      t.pc = s.pc ∧ t.special = (s.setIDelay t.iDelay).special ∧ s.bytesKept t [] ∧ s.marked t [] := by
  rw [State.writeCcr_eq, offeredCcr_congr h]
  exact ⟨rfl, rfl, rfl, rfl, rfl, State.bytesKept_of_bus rfl [], State.marked_nil rfl⟩

/-- Settles O31: a mask instruction is a CCR write, of which each bit offered is named. -/
theorem ccrWritesAndMasks : Obligations.CcrWritesAndMasks := by
  refine ⟨fun s v => ⟨s.writeCcr_eq v, fun hx => ?ccrh, s.writeCcrw_eq_writes⟩, fun s mask => ?masks⟩
  case ccrh => rw [State.writeCcrh, writtenCcrh_of_isX hx]
  case masks =>
    have anded (m : Byte) {bit : Nat → Bool} (h : ∀ k < 8, m.getLsbD k = bit k) : ∀ k < 8,
        (s.ccrByte &&& m).getLsbD k = (s.ccr.bit k && bit k) := fun k hk => by
      rw [BitVec.getLsbD_and, h k hk, State.ccrByte, Ccr.bit]
    have ored (m : Byte) {bit : Nat → Bool} (h : ∀ k < 8, m.getLsbD k = bit k) : ∀ k < 8,
        (s.ccrByte ||| m).getLsbD k = (s.ccr.bit k || bit k) := fun k hk => by
      rw [BitVec.getLsbD_or, h k hk, State.ccrByte, Ccr.bit]
    simp only [List.forall_mem_cons, List.not_mem_nil, false_implies, implies_true, and_true]
    exact ⟨⟨_, rfl, s.writeCcr_spec (anded mask fun _ _ => rfl)⟩,
      ⟨_, rfl, s.writeCcr_spec (ored mask fun _ _ => rfl)⟩,
      ⟨_, rfl, s.writeCcr_spec (anded 0xFE (by decide))⟩, ⟨_, rfl, s.writeCcr_spec (anded 0xEF (by decide))⟩,
      ⟨_, rfl, s.writeCcr_spec (anded 0xFD (by decide))⟩, ⟨_, rfl, s.writeCcr_spec (ored 0x01 (by decide))⟩,
      ⟨_, rfl, s.writeCcr_spec (ored 0x10 (by decide))⟩, ⟨_, rfl, s.writeCcr_spec (ored 0x02 (by decide))⟩⟩

end Sys2Proof.Machine
end

section
/-!
SUPPORT. Transfers and exchanges (40_load_store_transfer_move.md R190 to R211): every pair of register codes by the
slots it names, and the mnemonics that name another instruction.
-/

namespace Sys2Proof.Machine

/-! ## Transfers (R190 to R192, R202, R204) -/

/-- The low byte of a sign-extended byte is the byte. -/
theorem loByte_sextByte (b : Byte) : loByte (sextByte b) = b := by
  have h : ∀ b : Byte, loByte (sextByte b) = b := by decide
  exact h b

/-- A slot read as a word: an 8-bit one sign-extended (R191). -/
def State.slotWord (s : State) : Slot → Word
  | .byte p => sextByte (s.byteSlot p)
  | .word r => s.wordSlot r

/-- A slot written with a word: an 8-bit one takes the low byte (R191). -/
def State.setSlot (s : State) (dst : Slot) (v : Word) : State :=
  match dst with
  | .byte q => s.setByteSlot q (loByte v)
  | .word r => s.setWordSlot r v

/-- A transfer reads the source as a word and writes the word to the destination (R191). -/
theorem State.transfer_eq (s : State) (src dst : Slot) : s.transfer src dst = s.setSlot dst (s.slotWord src) := by
  cases src <;> cases dst
  case byte.byte p q => rw [State.setSlot, State.slotWord, loByte_sextByte, State.transfer]
  all_goals rfl

/-- The table of R202: the slots of its byte entries and of its word entries. -/
theorem variantSlots_of_mem :
    (∀ p ∈ highBytePairs, variantSlots p.1 p.2.1 = (.byte p.2.2.1, .byte p.2.2.2)) ∧
      ∀ p ∈ highWordPairs, variantSlots p.1 p.2.1 = (.word p.2.2.1, .word p.2.2.2) := by
  decide

/-- A transfer with bit 3 set goes by the table (R202). -/
theorem exec_tfr_variant (s : State) {src dst : XReg} {p q : Slot} (h : variantSlots src dst = (p, q)) :
    exec (.tfr true src dst) s = .next (s.transfer p q) := by
  have hslots : s.tfr true src dst = s.transfer p q := by
    rw [State.tfr, if_pos rfl, h]
  exact next_congr hslots

/-- The sign of D (R204). -/
theorem State.signOfD_eq (s : State) : s.signOfD = if s.d.toInt < 0 then 0xFFFF else 0 := by
  simp only [State.signOfD, BitVec.msb_eq_toInt, decide_eq_true_eq]
  rfl

/-- Settles O32: with bit 3 clear by `State.transfer_eq`, with bit 3 set by the table. -/
theorem transfers : Obligations.Transfers := by
  obtain ⟨hbytes, hwords⟩ := variantSlots_of_mem
  refine fun s => ⟨fun src dst v hv i hi => ?plain, fun p hp => exec_tfr_variant s (hbytes p hp),
    fun p hp => exec_tfr_variant s (hwords p hp), rfl, rfl, ?signX, ?signY⟩
  case plain =>
    have hread : v = s.slotWord (sourceSlot src) := by
      rw [hv]
      cases src <;> rfl
    have htransfer : exec i s = .next (s.transfer (sourceSlot src) (destSlot dst)) := by
      simp only [List.mem_cons, List.not_mem_nil, or_false] at hi
      obtain rfl | rfl := hi <;> rfl
    rw [htransfer, State.transfer_eq, ← hread]
    cases dst <;> rfl
  case signX =>
    rw [← s.signOfD_eq]
    rfl
  case signY =>
    rw [← s.signOfD_eq]
    rfl

/-! ## Exchanges (R193, R203) -/

/-- An exchange with bit 3 clear, by the slots of the two codes (R193). -/
theorem exec_exg (s : State) {src dst : XReg} {p q : Slot} (hp : sourceSlot src = p) (hq : destSlot dst = q) :
    exec (.exg false src dst) s = .next (s.exchange p q) := by
  rw [← hp, ← hq]
  rfl

/-- An exchange with bit 3 set, but the entry C9, goes by the table (R203). -/
theorem exec_exg_variant (s : State) {src dst : XReg} (h : (src, dst) ≠ (.d, .b)) :
    (∀ p q, variantSlots src dst = (.byte p, .byte q) → exec (.exg true src dst) s = .next (s.exchangeBytes p q)) ∧
      ∀ p q, variantSlots src dst = (.word p, .word q) → exec (.exg true src dst) s = .next (s.exchangeWords p q) := by
  have hc9 : ¬(src == .d && dst == .b) = true := by simpa using h
  refine ⟨fun p q hslots => ?_, fun p q hslots => ?_⟩
  · have hvariant : s.exchangeVariant src dst = s.exchangeBytes p q := by
      rw [State.exchangeVariant, if_neg hc9, hslots]
    exact next_congr hvariant
  · have hvariant : s.exchangeVariant src dst = s.exchangeWords p q := by
      rw [State.exchangeVariant, if_neg hc9, hslots]
    exact next_congr hvariant

/-- Settles O33: the slots of the codes name the exchange, and the pairs of D with A and B are its exceptions. -/
theorem exchanges : Obligations.Exchanges := by
  intro s bytes sources targets swapBytes swapWords
  have byteSource : ∀ p ∈ bytes, sourceSlot p.1 = .byte p.2 := by decide
  have byteDest : ∀ p ∈ bytes, destSlot p.1 = .byte p.2 := by decide
  have wordSource : ∀ r ∈ sources, sourceSlot r.1 = .word r.2 := by decide
  have wordDest : ∀ r ∈ targets, destSlot r.1 = .word r.2 := by decide
  obtain ⟨hbytes, hwords⟩ := variantSlots_of_mem
  refine ⟨fun p hp q hq => exec_exg s (byteSource p hp) (byteDest q hq),
    fun p hp q hq => exec_exg s (wordSource p hp) (wordDest q hq), fun p hp r hr => ?byteWord,
    fun r hr q hq => ?wordByte, fun p hp h => (exec_exg_variant s h).1 _ _ (hbytes p hp), fun p hp => ?words,
    rfl, rfl, rfl⟩
  case byteWord =>
    have intoD : ∀ p ∈ bytes, ∀ r ∈ targets,
        (r.2 == .d && (p.2 == .a || p.2 == .b)) = decide (r.1 = .d ∧ p.1 ≠ .ccr) := by decide
    rw [exec_exg s (byteSource p hp) (wordDest r hr), State.exchange, State.exchangeByteWord, intoD p hp r hr]
    simp only [decide_eq_true_eq]
    rfl
  case wordByte =>
    have fromD : ∀ r ∈ sources, ∀ q ∈ bytes, (r.2 == .d && q.2 == .a) = decide (r.1 = .d ∧ q.1 = .a) ∧
        (r.2 == .d && q.2 == .b) = decide (r.1 = .d ∧ q.1 = .b) ∧ (q.2 == .a) = decide (q.1 = .a) := by decide
    obtain ⟨ha, hb, htop⟩ := fromD r hr q hq
    rw [exec_exg s (wordSource r hr) (byteDest q hq), State.exchange, State.exchangeWordByte, ha, hb, htop]
    simp only [decide_eq_true_eq]
    rfl
  case words =>
    have table : ∀ p ∈ highWordPairs ++ [(.d, .x, .d, .x), (.d, .y, .d, .y)],
        (p.1, p.2.1) ≠ (XReg.d, XReg.b) ∧ variantSlots p.1 p.2.1 = (.word p.2.2.1, .word p.2.2.2) := by decide
    obtain ⟨hne, hslots⟩ := table p hp
    exact (exec_exg_variant s hne).2 _ _ hslots

/-! ## The mnemonics that name another instruction (R196 to R199, R206 to R211) -/

/-- Settles O34: what each mnemonic does is what the instruction it names does. -/
theorem namedTransfersAndAliases : Obligations.NamedTransfersAndAliases := by
  refine fun s => ⟨?flags, ?plain, rfl, ?names, fun rel => ⟨rfl, rfl⟩, fun rel => ⟨rfl, rfl⟩⟩
  case flags =>
    have tab : s.RegsOnly (s.setB s.a) := s.regsOnly_setAcc .b s.a
    have tba : s.RegsOnly (s.setA s.b) := s.regsOnly_setAcc .a s.b
    simp only [List.forall_mem_cons, List.not_mem_nil, false_implies, implies_true, and_true]
    exact ⟨⟨_, rfl, rfl, rfl, tab.still _⟩, ⟨_, rfl, rfl, rfl, tba.still _⟩⟩
  case plain =>
    have still {t : State} (h : s.RegsOnly t) : t.regs = t.regs ∧ t.ccr = s.ccr ∧ s.still t :=
      ⟨rfl, h.ccr, h.still t.ccr⟩
    simp only [List.forall_mem_cons, List.not_mem_nil, false_implies, implies_true, and_true]
    exact ⟨⟨_, rfl, still (s.regsOnly_setAcc .a _)⟩, ⟨_, rfl, still (s.regsOnly_setAutoReg .x _)⟩,
      ⟨_, rfl, still (s.regsOnly_setAutoReg .y _)⟩, ⟨_, rfl, still (s.regsOnly_setAutoReg .sp _)⟩,
      ⟨_, rfl, still (s.regsOnly_setAutoReg .sp _)⟩,
      ⟨_, rfl, still ((s.regsOnly_setAutoReg .x s.d).trans (State.regsOnly_setD _ s.x))⟩,
      ⟨_, rfl, still ((s.regsOnly_setAutoReg .y s.d).trans (State.regsOnly_setD _ s.y))⟩⟩
  case names =>
    simp only [List.forall_mem_cons, List.not_mem_nil, false_implies, implies_true, and_true]
    have down : s.sp - 1#16 = s.sp + (-1 : BitVec 5).signExtend 16 := BitVec.sub_eq_add_neg s.sp 1#16
    have des : exec .des s = exec (.leas (.off5 .sp (-1))) s := next_congr (congrArg s.setSp down)
    exact ⟨rfl, rfl, rfl, rfl, rfl, rfl, rfl, rfl, rfl, rfl, des, rfl, rfl, rfl, rfl, rfl, rfl, rfl⟩

end Sys2Proof.Machine
end

section
/-!
SUPPORT. Memory-to-memory moves (40_load_store_transfer_move.md R215 to R218): the state after both addressing modes,
the datum read on its bus, the store.
-/

namespace Sys2Proof.Machine

/-! ## A store after addressing modes -/

/-- What a move leaves: the registers as `s2`, the state after its modes, has them, and the rest of `s` but the
locations stored to. -/
def State.moved (s s2 t : State) (stored : List Loc) : Prop :=
  t.regs = s2.regs ∧ t.ccr = s.ccr ∧ t.pc = s.pc ∧ t.special = s.special ∧ s.bytesKept t stored ∧ s.marked t stored

theorem State.RegsOnly.moved_write8 {s s2 : State} (h : s.RegsOnly s2) (a : Word) (v : Byte) :
    s2.storedByte (s2.write8 a v) a v ∧ s.moved s2 (s2.write8 a v) [s2.locate a] := by
  refine ⟨s2.peek_write8_same a v, s2.write8_regs a v, (s2.write8_ccr a v).trans h.ccr, (s2.write8_pc a v).trans h.pc,
    (s2.write8_special a v).trans h.special, fun l hl => ?_,
    State.marked_congr (s2.marked_write8 a v) h.bus h.pc h.marks rfl⟩
  rw [State.peek_write8_other _ _ _ (by simpa using hl), State.peek_of_bus h.bus]

theorem State.RegsOnly.moved_write16 {s s2 : State} (h : s.RegsOnly s2) (a v : Word) :
    s2.storedWord (s2.write16 a v) a v ∧ s.moved s2 (s2.write16 a v) (s2.wordLocs a v) := by
  refine ⟨s2.storedWord_write16 a v (s2.write16 a v).ccr, s2.write16_regs a v, (s2.write16_ccr a v).trans h.ccr,
    (s2.write16_pc a v).trans h.pc, (s2.write16_special a v).trans h.special, fun l hl => ?_,
    State.marked_congr (s2.marked_write16 a v) h.bus h.pc h.marks rfl⟩
  obtain ⟨hfirst, hsecond⟩ : l ≠ s2.locate a ∧ l ≠ (s2.write8 a (hiByte v)).locate (a + 1#16) := by
    simpa [State.wordLocs] using hl
  rw [State.peek_write16_other _ _ _ hfirst hsecond, State.peek_of_bus h.bus]

/-! ## The addresses and the datum (R216) -/

theorem State.regsOnly_indexedFrom (s : State) (pc : Word) (xb : Indexed) : s.RegsOnly (s.indexedFrom pc xb).2 :=
  State.regsOnly_of_modeOnly (s.indexedFrom_modeOnly pc xb)

theorem State.regsOnly_indexed (s : State) (xb : Indexed) : s.RegsOnly (s.indexed xb).2 :=
  s.regsOnly_indexedFrom s.pc xb

/-- The modes of a move change registers only. -/
theorem State.regsOnly_moveAddresses {α : Type} (s : State) (m : Move α) : s.RegsOnly (s.moveAddresses m).2.2 := by
  cases m
  case immExt v d => exact s.regsOnly_refl
  case immIdx v d => exact s.regsOnly_indexed d
  case extExt a d => exact s.regsOnly_refl
  case extIdx a d => exact s.regsOnly_indexed d
  case idxExt x d => exact s.regsOnly_indexed x
  case idxIdx x d => exact (s.regsOnly_indexedFrom _ x).trans (State.regsOnly_indexed _ d)

/-- The datum of a move: its immediate, or what `read` gives at its source address. -/
def State.moveDatum {α : Type} (s : State) (read : Word → α) (m : Move α) (v : α) : Prop :=
  moveImmediate m = some v ∨ ∃ a, moveImmediate m = none ∧ (s.moveAddresses m).1 = some a ∧ v = read a

/-- MOVB stores its datum, read on the bus its modes leave alone. -/
theorem State.moveByte_eq (s : State) {m : Move Byte} {v : Byte} (h : s.moveDatum s.read8 m v) :
    s.moveByte m = (s.moveAddresses m).2.2.write8 (s.moveAddresses m).2.1 v := by
  obtain himm | ⟨a, hnone, ha, rfl⟩ := h
  · simp only [State.moveByte, himm]
  · simp only [State.moveByte, hnone, ha, State.read8_of_bus (s.regsOnly_moveAddresses m).bus]

/-- MOVW likewise. -/
theorem State.moveWord_eq (s : State) {m : Move Word} {v : Word} (h : s.moveDatum s.read16 m v) :
    s.moveWord m = (s.moveAddresses m).2.2.write16 (s.moveAddresses m).2.1 v := by
  obtain himm | ⟨a, hnone, ha, rfl⟩ := h
  · simp only [State.moveWord, himm]
  · simp only [State.moveWord, hnone, ha, State.read16_of_bus (s.regsOnly_moveAddresses m).bus]

/-- Settles O35: every class is a store of its datum after its modes, whose addresses `State.moveAddresses` gives. -/
theorem moves : Obligations.Moves := by
  intro s lag moved putsByte putsWord
  have byte (m : Move Byte) {v : Byte} (h : s.moveDatum s.read8 m v) :
      putsByte (.movb m) v (s.moveAddresses m).2.1 (s.moveAddresses m).2.2 :=
    ⟨_, next_congr (s.moveByte_eq h), (s.regsOnly_moveAddresses m).moved_write8 _ v⟩
  have word (m : Move Word) {v : Word} (h : s.moveDatum s.read16 m v) :
      putsWord (.movw m) v (s.moveAddresses m).2.1 (s.moveAddresses m).2.2 :=
    ⟨_, next_congr (s.moveWord_eq h), (s.regsOnly_moveAddresses m).moved_write16 _ v⟩
  have base (d : Indexed) : s.pc - lag d = s.moveSourceBase d := by
    cases hx : s.cfg.version.isX with
    | true =>
      simp only [lag, State.moveSourceBase, hx, if_true]
      cases d <;> rfl
    | false =>
      simp only [lag, State.moveSourceBase, hx, Bool.false_eq_true, if_false]
      exact BitVec.sub_zero s.pc
  simp only [base]
  have read {α : Type} {f : Word → α} {a : Word} {m : Move α} (hn : moveImmediate m = none)
      (ha : (s.moveAddresses m).1 = some a) : s.moveDatum f m (f a) := .inr ⟨a, hn, ha, rfl⟩
  exact ⟨fun v d => byte (.immExt v d) (.inl rfl), fun v d => word (.immExt v d) (.inl rfl),
    fun a d => byte (.extExt a d) (read rfl rfl), fun a d => word (.extExt a d) (read rfl rfl),
    fun v d => byte (.immIdx v d) (.inl rfl), fun v d => word (.immIdx v d) (.inl rfl),
    fun a d => byte (.extIdx a d) (read rfl rfl), fun a d => word (.extIdx a d) (read rfl rfl),
    fun x d => byte (.idxExt x d) (read rfl rfl), fun x d => word (.idxExt x d) (read rfl rfl),
    fun x d => byte (.idxIdx x d) (read rfl rfl), fun x d => word (.idxIdx x d) (read rfl rfl)⟩

end Sys2Proof.Machine
end

section
/-!
SUPPORT. Sample words of the opcode table (30_encoding.md).
-/

namespace Sys2Proof.Machine

/-- The bytes of a well-formed instruction, and no others, decode to it. -/
theorem decode_of_encode_eq {v : Version} {i : Instr} {bytes : List Byte} (hwf : i.wf v = true)
    (h : encode i = bytes) : decode v bytes = .ok (i, []) := by
  have hread := reads_encode hwf []
  rwa [List.append_nil, h] at hread

/-- Settles O8: each word is what the encoder writes of its instruction, which is well-formed. -/
theorem sampleWordsDecode : Obligations.SampleWordsDecode := by
  intro p hp
  have sample : p.2.wf .cpu12xv0 = true ∧ encode p.2 = p.1 := by
    revert p
    decide
  obtain ⟨hwf, hbytes⟩ := sample
  exact decode_of_encode_eq hwf hbytes

end Sys2Proof.Machine
end

section
/-!
SUPPORT. How arithmetic ends (41_add_sub_bcd_incdec.md R230, R250, R270; 42_compare_logic_clr_com_neg.md R300, R358,
R367): each shape of operation leaves the result and the flags that its operation of the arithmetic and logic unit
gives, and the frame.
-/

namespace Sys2Proof.Machine

theorem State.regsOnly_setWide (s : State) (r : Wide) (v : Word) : s.RegsOnly (s.setWide r v) := by
  cases r <;> exact ⟨rfl, rfl, rfl, rfl, rfl⟩

/-- No addressing mode moves an accumulator. -/
theorem State.src8_acc (s : State) (op : Src8) (r : Acc) : (s.src8 op).2.acc r = s.acc r := by
  cases r
  · exact s.src8_a op
  · exact s.src8_b op

/-- Nor the accumulator both make up. -/
theorem State.src16_d (s : State) (op : Src16) : (s.src16 op).2.d = s.d := by
  rw [State.d, State.d, s.src16_a, s.src16_b]

/-- The registers and flags of an instruction without a memory operand, and its frame. -/
theorem State.RegsOnly.computed {s u : State} (h : s.RegsOnly u) (c : Ccr) :
    (u.setCcr c).regs = u.regs ∧ (u.setCcr c).ccr = c ∧ s.still (u.setCcr c) :=
  ⟨rfl, rfl, h.still c⟩

/-- The same after an operand's mode has led from `s` to `s1`. -/
theorem State.RegsOnly.computedFrom {s s1 u : State} {target : Option AutoReg} (h : s1.RegsOnly u)
    (hm : s.modeOnly s1 target) (c : Ccr) :
    (u.setCcr c).regs = u.regs ∧ (u.setCcr c).ccr = c ∧ s.frame s1 (u.setCcr c) target [] :=
  ⟨rfl, rfl, h.frame hm c⟩

/-! ## On registers -/

theorem State.accAB_spec (s : State) {f : Alu2 8} {v : Byte} {c : Ccr} (h : f s.ccr s.a s.b = (v, c)) :
    (s.accAB f).regs = (s.setA v).regs ∧ (s.accAB f).ccr = c ∧ s.still (s.accAB f) := by
  have ends : s.accAB f = (s.setA v).setCcr c := by simp only [State.accAB, h]
  rw [ends]
  exact (s.regsOnly_setAcc .a v).computed c

theorem State.accUnary_spec (s : State) {f : Alu1 8} (r : Acc) {v : Byte} {c : Ccr} (h : f s.ccr (s.acc r) = (v, c)) :
    (s.accUnary f r).regs = (s.setAcc r v).regs ∧ (s.accUnary f r).ccr = c ∧ s.still (s.accUnary f r) := by
  have ends : s.accUnary f r = (s.setAcc r v).setCcr c := by simp only [State.accUnary, h]
  rw [ends]
  exact (s.regsOnly_setAcc r v).computed c

theorem State.wideUnary_spec (s : State) {f : Alu1 16} (r : Wide) {v : Word} {c : Ccr}
    (h : f s.ccr (s.wide r) = (v, c)) :
    (s.wideUnary f r).regs = (s.setWide r v).regs ∧ (s.wideUnary f r).ccr = c ∧ s.still (s.wideUnary f r) := by
  have ends : s.wideUnary f r = (s.setWide r v).setCcr c := by simp only [State.wideUnary, h]
  rw [ends]
  exact (s.regsOnly_setWide r v).computed c

/-! ## With an operand: the accumulator of before its mode, the 16-bit register of after (R74; log 20) -/

theorem State.accOp_spec (s : State) {f : Alu2 8} (r : Acc) (op : Src8) {v : Byte} {c : Ccr}
    (h : f s.ccr (s.acc r) (s.src8 op).1 = (v, c)) :
    (s.accOp f r op).regs = ((s.src8 op).2.setAcc r v).regs ∧ (s.accOp f r op).ccr = c ∧
      s.frame (s.src8 op).2 (s.accOp f r op) (Src8.autoTarget op) [] := by
  have ends : s.accOp f r op = ((s.src8 op).2.setAcc r v).setCcr c := by
    simp only [State.accOp, State.src8_ccr, State.src8_acc, h]
  rw [ends]
  exact (State.regsOnly_setAcc _ r v).computedFrom (s.src8_modeOnly op) c

theorem State.accTest_spec (s : State) {f : Alu2 8} (r : Acc) (op : Src8) {v : Byte} {c : Ccr}
    (h : f s.ccr (s.acc r) (s.src8 op).1 = (v, c)) :
    (s.accTest f r op).regs = (s.src8 op).2.regs ∧ (s.accTest f r op).ccr = c ∧
      s.frame (s.src8 op).2 (s.accTest f r op) (Src8.autoTarget op) [] := by
  have ends : s.accTest f r op = (s.src8 op).2.setCcr c := by
    simp only [State.accTest, State.src8_ccr, State.src8_acc, h]
  rw [ends]
  exact (State.regsOnly_refl _).computedFrom (s.src8_modeOnly op) c

theorem State.wideOp_spec (s : State) {f : Alu2 16} (r : Wide) (op : Src16) {v : Word} {c : Ccr}
    (h : f s.ccr ((s.src16 op).2.wide r) (s.src16 op).1 = (v, c)) :
    (s.wideOp f r op).regs = ((s.src16 op).2.setWide r v).regs ∧ (s.wideOp f r op).ccr = c ∧
      s.frame (s.src16 op).2 (s.wideOp f r op) (Src16.autoTarget op) [] := by
  have ends : s.wideOp f r op = ((s.src16 op).2.setWide r v).setCcr c := by
    simp only [State.wideOp, State.src16_ccr, h]
  rw [ends]
  exact (State.regsOnly_setWide _ r v).computedFrom (s.src16_modeOnly op) c

theorem State.wideTest_spec (s : State) {f : Alu2 16} (r : Wide) (op : Src16) {v : Word} {c : Ccr}
    (h : f s.ccr ((s.src16 op).2.wide r) (s.src16 op).1 = (v, c)) :
    (s.wideTest f r op).regs = (s.src16 op).2.regs ∧ (s.wideTest f r op).ccr = c ∧
      s.frame (s.src16 op).2 (s.wideTest f r op) (Src16.autoTarget op) [] := by
  have ends : s.wideTest f r op = (s.src16 op).2.setCcr c := by
    simp only [State.wideTest, State.src16_ccr, h]
  rw [ends]
  exact (State.regsOnly_refl _).computedFrom (s.src16_modeOnly op) c

/-! ## On memory: the result goes back to the address read (R72) -/

theorem State.byteUnary_spec (s : State) {f : Alu1 8} (op : ExtIdx) {v : Byte} {c : Ccr}
    (h : f s.ccr (s.read8 (s.eaExtIdx op).1) = (v, c)) :
    let a := (s.eaExtIdx op).1
    let s1 := (s.eaExtIdx op).2
    let t := s.byteUnary f op
    t.regs = s1.regs ∧ t.ccr = c ∧ s1.storedByte t a v ∧ s.frame s1 t (ExtIdx.autoTarget op) [s1.locate a] := by
  have ends : s.byteUnary f op = ((s.eaExtIdx op).2.write8 (s.eaExtIdx op).1 v).setCcr c := by
    simp only [State.byteUnary, State.eaExtIdx_ccr, State.read8_of_bus (s.eaExtIdx_bus op), h]
  rw [ends]
  exact ⟨State.write8_regs _ _ v, rfl, State.storedByte_write8 _ _ v c,
    State.frame_of_write8 (s.eaExtIdx_modeOnly op) _ v c⟩

theorem State.wordUnary_spec (s : State) {f : Alu1 16} (op : ExtIdx) {v : Word} {c : Ccr}
    (h : f s.ccr (s.read16 (s.eaExtIdx op).1) = (v, c)) :
    let a := (s.eaExtIdx op).1
    let s1 := (s.eaExtIdx op).2
    let t := s.wordUnary f op
    t.regs = s1.regs ∧ t.ccr = c ∧ s1.storedWord t a v ∧ s.frame s1 t (ExtIdx.autoTarget op) (s1.wordLocs a v) := by
  have ends : s.wordUnary f op = ((s.eaExtIdx op).2.write16 (s.eaExtIdx op).1 v).setCcr c := by
    simp only [State.wordUnary, State.eaExtIdx_ccr, State.read16_of_bus (s.eaExtIdx_bus op), h]
  rw [ends]
  exact ⟨State.write16_regs _ _ v, rfl, State.storedWord_write16 _ _ v c,
    State.frame_of_write16 (s.eaExtIdx_modeOnly op) _ v c⟩

end Sys2Proof.Machine
end

section
/-!
SUPPORT. Additions, subtractions, compares and index adjustments (41_add_sub_bcd_incdec.md sections 1 to 4;
42_compare_logic_clr_com_neg.md section 1).
-/

namespace Sys2Proof.Machine

/-! ## Additions (R230 to R244) -/

/-- Settles O21: each addition ends as its shape says, with the flags of `aluAdd8_exact`. -/
theorem byteAdditions : Obligations.ByteAdditions := by
  refine ⟨fun s => ⟨_, rfl, s.accAB_spec (aluAdd8_exact false s.ccr s.a s.b)⟩, fun s op => ?operand⟩
  have add (withCarry : Bool) (r : Acc) :=
    s.accOp_spec r op (aluAdd8_exact withCarry s.ccr (s.acc r) (s.src8 op).1)
  simp only [List.forall_mem_cons, List.not_mem_nil, false_implies, implies_true, and_true]
  exact ⟨⟨_, rfl, add false .a⟩, ⟨_, rfl, add false .b⟩, ⟨_, rfl, add true .a⟩, ⟨_, rfl, add true .b⟩⟩

/-- Settles O22: plain and extended additions, of the register that the operand's mode leaves. -/
theorem wordAdditions : Obligations.WordAdditions := by
  refine fun s op => ⟨?plain, ?extended⟩
  case plain =>
    have add (r : Wide) := s.wideOp_spec r op (aluAdd16_plain s.ccr ((s.src16 op).2.wide r) (s.src16 op).1)
    simp only [List.forall_mem_cons, List.not_mem_nil, false_implies, implies_true, and_true]
    exact ⟨⟨_, rfl, add .d⟩, ⟨_, rfl, add .x⟩, ⟨_, rfl, add .y⟩⟩
  case extended =>
    have add (r : Wide) := s.wideOp_spec r op (aluAdd16_extended s.ccr ((s.src16 op).2.wide r) (s.src16 op).1)
    simp only [List.forall_mem_cons, List.not_mem_nil, false_implies, implies_true, and_true]
    exact ⟨⟨_, rfl, add .d⟩, ⟨_, rfl, add .x⟩, ⟨_, rfl, add .y⟩⟩

/-! ## Subtractions and compares (R250 to R262, R300 to R311) -/

/-- CBA: the flags of A less B, and nothing else (R301). -/
theorem exec_cba (s : State) : exec .cba s = .next (s.setCcr (subtractedCcr s.ccr s.a s.b false)) :=
  next_congr (congrArg (fun out : Byte × Ccr => s.setCcr out.2) (aluSub8_exact false s.ccr s.a s.b))

/-- Settles O23: each subtraction ends as its shape says, with the flags of `aluSub8_exact`. -/
theorem byteSubtractionsAndCompares : Obligations.ByteSubtractionsAndCompares := by
  refine ⟨fun s => ⟨⟨_, rfl, s.accAB_spec (aluSub8_exact false s.ccr s.a s.b)⟩,
    ⟨_, exec_cba s, s.regsOnly_refl.computed _⟩⟩, fun s op => ⟨?subtract, ?compare⟩⟩
  case subtract =>
    have sub (withBorrow : Bool) (r : Acc) :=
      s.accOp_spec r op (aluSub8_exact withBorrow s.ccr (s.acc r) (s.src8 op).1)
    simp only [List.forall_mem_cons, List.not_mem_nil, false_implies, implies_true, and_true]
    exact ⟨⟨_, rfl, sub false .a⟩, ⟨_, rfl, sub false .b⟩, ⟨_, rfl, sub true .a⟩, ⟨_, rfl, sub true .b⟩⟩
  case compare =>
    have cmp (r : Acc) := s.accTest_spec r op (aluSub8_exact false s.ccr (s.acc r) (s.src8 op).1)
    simp only [List.forall_mem_cons, List.not_mem_nil, false_implies, implies_true, and_true]
    exact ⟨⟨_, rfl, cmp .a⟩, ⟨_, rfl, cmp .b⟩⟩

/-- Settles O24: plain and extended differences, of the register that the operand's mode leaves, kept or not. -/
theorem wordSubtractionsAndCompares : Obligations.WordSubtractionsAndCompares := by
  intro s op
  have plain (r : Wide) := aluSub16_plain s.ccr ((s.src16 op).2.wide r) (s.src16 op).1
  have extended (r : Wide) := aluSub16_extended s.ccr ((s.src16 op).2.wide r) (s.src16 op).1
  refine ⟨?sub, ?subExtended, ?cmp, ?cmpExtended⟩ <;>
    simp only [List.forall_mem_cons, List.not_mem_nil, false_implies, implies_true, and_true]
  case sub =>
    have ends (r : Wide) := s.wideOp_spec r op (plain r)
    exact ⟨⟨_, rfl, ends .d⟩, ⟨_, rfl, ends .x⟩, ⟨_, rfl, ends .y⟩⟩
  case subExtended =>
    have ends (r : Wide) := s.wideOp_spec r op (extended r)
    exact ⟨⟨_, rfl, ends .d⟩, ⟨_, rfl, ends .x⟩, ⟨_, rfl, ends .y⟩⟩
  case cmp =>
    have ends (r : Wide) := s.wideTest_spec r op (plain r)
    exact ⟨⟨_, rfl, ends .d⟩, ⟨_, rfl, ends .x⟩, ⟨_, rfl, ends .y⟩, ⟨_, rfl, ends .sp⟩⟩
  case cmpExtended =>
    have ends (r : Wide) := s.wideTest_spec r op (extended r)
    exact ⟨⟨_, rfl, ends .d⟩, ⟨_, rfl, ends .x⟩, ⟨_, rfl, ends .y⟩, ⟨_, rfl, ends .sp⟩⟩

/-! ## Index adjustments (R232, R233, R277 to R279, R286 to R288) -/

/-- A zero-extended byte added is its number added. -/
theorem add_zextByte (w : Word) (b : Byte) : w + zextByte b = BitVec.ofNat 16 (w.toNat + b.toNat) := by
  rw [BitVec.ofNat_add, BitVec.ofNat_toNat, BitVec.ofNat_toNat, BitVec.setWidth_eq]
  rfl

/-- An integer added to a word is added to its signed number. -/
theorem add_ofInt_word (w : Word) (k : Int) : w + BitVec.ofInt 16 k = BitVec.ofInt 16 (w.toInt + k) := by
  rw [BitVec.ofInt_add, BitVec.ofInt_toInt]

theorem sub_one_word (w : Word) : w - 1#16 = BitVec.ofInt 16 (w.toInt - 1) := by
  have minusOne : -1#16 = BitVec.ofInt 16 (-1) := by decide
  rw [BitVec.sub_eq_add_neg, minusOne, add_ofInt_word, Int.sub_eq_add_neg]

/-- A step of an index register ends: Z alone from the result. -/
theorem State.stepIndex_spec (s : State) (r : AutoReg) {delta : Word} {k : Int} (h : delta = BitVec.ofInt 16 k) :
    let v := BitVec.ofInt 16 ((s.autoReg r).toInt + k)
    let t := s.stepIndex r delta
    t.regs = (s.setAutoReg r v).regs ∧ t.ccr = { s.ccr with z := decide (v = 0) } ∧ s.still t := by
  intro v t
  have ends : t = (s.setAutoReg r v).setCcr { s.ccr with z := decide (v = 0) } := by
    simp only [t, v, State.stepIndex, h, add_ofInt_word, State.flags, State.setAutoReg_ccr, beq_zero]
  rw [ends]
  exact (s.regsOnly_setAutoReg r v).computed _

/-- Settles O25: a register written with the exact sum, and Z where the instruction sets it. -/
theorem indexAdjustments : Obligations.IndexAdjustments := by
  refine fun s => ⟨?noFlag, ?zeroFlag⟩ <;>
    simp only [List.forall_mem_cons, List.not_mem_nil, false_implies, implies_true, and_true]
  case noFlag =>
    have puts {t u : State} (hset : s.RegsOnly u) (heq : t = u) : t.regs = u.regs ∧ t.ccr = s.ccr ∧ s.still t := by
      rw [heq]
      exact ⟨rfl, hset.ccr, hset.still u.ccr⟩
    have abx := congrArg s.setX (add_zextByte s.x s.b)
    have aby := congrArg s.setY (add_zextByte s.y s.b)
    have des := congrArg s.setSp (sub_one_word s.sp)
    have ins := congrArg s.setSp (add_ofInt_word s.sp 1)
    exact ⟨⟨_, rfl, puts (s.regsOnly_setAutoReg .x _) abx⟩, ⟨_, rfl, puts (s.regsOnly_setAutoReg .y _) aby⟩,
      ⟨_, rfl, puts (s.regsOnly_setAutoReg .sp _) des⟩, ⟨_, rfl, puts (s.regsOnly_setAutoReg .sp _) ins⟩,
      ⟨_, rfl, puts s.regsOnly_refl rfl⟩⟩
  case zeroFlag =>
    have down (r : AutoReg) := s.stepIndex_spec r (show 0#16 - 1#16 = BitVec.ofInt 16 (-1) by decide)
    have up (r : AutoReg) := s.stepIndex_spec r (show 1#16 = BitVec.ofInt 16 1 by decide)
    exact ⟨⟨_, rfl, down .x⟩, ⟨_, rfl, down .y⟩, ⟨_, rfl, up .x⟩, ⟨_, rfl, up .y⟩⟩

/-! ## Decrement, increment, complement and negate (R270 to R285, R358 to R373) -/

/-- Settles O27: each operation as its lemma of the arithmetic and logic unit says, in each of the four shapes. -/
theorem decIncComNeg : Obligations.DecIncComNeg := by
  refine ⟨fun s => ⟨?acc, ?index⟩, fun s op => ⟨?byte, ?word⟩⟩ <;>
    simp only [List.forall_mem_cons, List.not_mem_nil, false_implies, implies_true, and_true]
  case acc =>
    have dec (r : Acc) := s.accUnary_spec r (aluDec_byte s.ccr (s.acc r))
    have inc (r : Acc) := s.accUnary_spec r (aluInc_byte s.ccr (s.acc r))
    have com (r : Acc) := s.accUnary_spec r (aluCom_byte s.ccr (s.acc r))
    have neg (r : Acc) := s.accUnary_spec r (aluNeg_byte s.ccr (s.acc r))
    exact ⟨⟨_, rfl, dec .a⟩, ⟨_, rfl, dec .b⟩, ⟨_, rfl, inc .a⟩, ⟨_, rfl, inc .b⟩, ⟨_, rfl, com .a⟩, ⟨_, rfl, com .b⟩,
      ⟨_, rfl, neg .a⟩, ⟨_, rfl, neg .b⟩⟩
  case index =>
    have dec (r : Wide) := s.wideUnary_spec r (aluDec_word s.ccr (s.wide r))
    have inc (r : Wide) := s.wideUnary_spec r (aluInc_word s.ccr (s.wide r))
    have com (r : Wide) := s.wideUnary_spec r (aluCom_word s.ccr (s.wide r))
    have neg (r : Wide) := s.wideUnary_spec r (aluNeg_word s.ccr (s.wide r))
    exact ⟨⟨_, rfl, dec .x⟩, ⟨_, rfl, dec .y⟩, ⟨_, rfl, inc .x⟩, ⟨_, rfl, inc .y⟩, ⟨_, rfl, com .x⟩, ⟨_, rfl, com .y⟩,
      ⟨_, rfl, neg .x⟩, ⟨_, rfl, neg .y⟩⟩
  case byte =>
    exact ⟨⟨_, rfl, s.byteUnary_spec op (aluDec_byte _ _)⟩, ⟨_, rfl, s.byteUnary_spec op (aluInc_byte _ _)⟩,
      ⟨_, rfl, s.byteUnary_spec op (aluCom_byte _ _)⟩, ⟨_, rfl, s.byteUnary_spec op (aluNeg_byte _ _)⟩⟩
  case word =>
    exact ⟨⟨_, rfl, s.wordUnary_spec op (aluDec_word _ _)⟩, ⟨_, rfl, s.wordUnary_spec op (aluInc_word _ _)⟩,
      ⟨_, rfl, s.wordUnary_spec op (aluCom_word _ _)⟩, ⟨_, rfl, s.wordUnary_spec op (aluNeg_word _ _)⟩⟩

end Sys2Proof.Machine
end

section
/-!
SUPPORT. Decimal adjust (41_add_sub_bcd_incdec.md R265, D21): the correction as numbers, and the decimal sum.
-/

namespace Sys2Proof.Machine

/-- DAA corrects the high digit of the number `a`, and leaves C set. -/
def daaCarry (f : Ccr) (a : Nat) : Bool := decide (9 < a / 16) || f.c || decide (a / 16 = 9 ∧ 9 < a % 16)

/-- The number `a` with the corrections of DAA added, before it is cut to eight bits. -/
def daaSum (f : Ccr) (a : Nat) : Nat :=
  a + (if daaCarry f a then 0x60 else 0) + if decide (9 < a % 16) || f.h then 0x06 else 0

/-- The low digit of a byte. -/
theorem lowDigit_toNat (a : Byte) : (a.extractLsb' 0 4).toNat = a.toNat % 16 := by
  rw [BitVec.extractLsb'_toNat, Nat.shiftRight_zero]

/-- The high digit of a byte. -/
theorem highDigit_toNat (a : Byte) : (a.extractLsb' 4 4).toNat = a.toNat / 16 := by
  have := a.isLt
  rw [BitVec.extractLsb'_toNat, Nat.shiftRight_eq_div_pow]
  omega

theorem daaLow_eq (f : Ccr) (a : Byte) : daaLow f a = (decide (9 < a.toNat % 16) || f.h) := by
  rw [daaLow, lowDigit_toNat]

theorem daaHigh_eq (f : Ccr) (a : Byte) : daaHigh f a = daaCarry f a.toNat := by
  rw [daaHigh, daaCarry, lowDigit_toNat, highDigit_toNat, Bool.decide_and]
  rfl

/-- The corrected byte is the corrected number in eight bits. -/
theorem add_daaFactor (f : Ccr) (a : Byte) : a + daaFactor f a = BitVec.ofNat 8 (daaSum f a.toNat) := by
  rw [daaFactor, daaSum, daaHigh_eq, daaLow_eq, Nat.add_assoc, BitVec.ofNat_add, BitVec.ofNat_toNat,
    BitVec.setWidth_eq, BitVec.ofNat_add]
  split_ifs <;> rfl

theorem aluDaa_eq (undefinedV : Bool) (f : Ccr) (a : Byte) :
    let r := BitVec.ofNat 8 (daaSum f a.toNat)
    aluDaa undefinedV f a = (r, { f with n := r.msb, z := decide (r = 0), v := undefinedV, c := daaCarry f a.toNat }) := by
  simp only [aluDaa, add_daaFactor, daaHigh_eq, beq_zero]

/-! ## After the binary sum of two decimal bytes -/

/-- A number below 100 as two decimal digits in a byte. -/
def bcdByte (n : Nat) : Byte := BitVec.ofNat 8 (n / 10 * 16 + n % 10)

theorem bcdByte_toNat {n : Nat} (h : n < 100) : (bcdByte n).toNat = n / 10 * 16 + n % 10 := by
  rw [bcdByte, BitVec.toNat_ofNat]
  omega

/-- A high digit of ten or more, corrected by six, is left modulo ten, and its carry is cut off. -/
theorem carried_digits {hi lo : Nat} (hhi : hi < 20) (hlo : lo < 10) :
    (16 * hi + lo + if 10 ≤ hi then 96 else 0) % 256 = hi % 10 * 16 + lo := by
  split <;> omega

/-- After a binary sum, of which the high digits are `x` and the low digits with the carry in are `y`, the digits are
corrected where the decimal sum carries out of them, and the corrected number is the decimal sum. -/
theorem daa_of_digit_sums {f : Ccr} {a x y : Nat} (hx : x ≤ 18) (hy : y ≤ 19) (ha : a = (16 * x + y) % 256)
    (hh : f.h = decide (16 ≤ y)) (hc : f.c = decide (256 ≤ 16 * x + y)) :
    daaCarry f a = decide (100 ≤ 10 * x + y) ∧
      daaSum f a % 256 = (10 * x + y) % 100 / 10 * 16 + (10 * x + y) % 100 % 10 := by
  have carry : daaCarry f a = decide (100 ≤ 10 * x + y) := by
    rw [Bool.eq_iff_iff]
    simp only [daaCarry, hc, Bool.or_eq_true, decide_eq_true_eq]
    omega
  have low : (decide (9 < a % 16) || f.h) = decide (10 ≤ y) := by
    rw [Bool.eq_iff_iff]
    simp only [hh, Bool.or_eq_true, decide_eq_true_eq]
    omega
  have tens : (10 * x + y) % 100 / 10 = (x + y / 10) % 10 := by omega
  have units : (10 * x + y) % 100 % 10 = y % 10 := by omega
  have value : daaSum f a % 256 = (16 * (x + y / 10) + y % 10 + if 10 ≤ x + y / 10 then 96 else 0) % 256 := by
    have hundred : 100 ≤ 10 * x + y ↔ 10 ≤ x + y / 10 := by omega
    rw [daaSum, carry, low]
    simp only [decide_eq_true_eq, hundred]
    split_ifs <;> omega
  refine ⟨carry, ?_⟩
  rw [value, tens, units]
  exact carried_digits (by omega) (by omega)

/-- DAA after the binary sum of two decimal bytes leaves the decimal sum, and C a sum above 99. -/
theorem daa_of_bcd_sum {f : Ccr} {a : Byte} {p q : Nat} {c : Bool} (hp : p < 100) (hq : q < 100)
    (ha : a = addedValue (bcdByte p) (bcdByte q) c) (hh : f.h = addedHalf (bcdByte p) (bcdByte q) c)
    (hc : f.c = decide (2 ^ 8 ≤ exactSum (bcdByte p) (bcdByte q) c)) :
    daaCarry f a.toNat = decide (100 ≤ p + q + c.toNat) ∧
      BitVec.ofNat 8 (daaSum f a.toNat) = bcdByte ((p + q + c.toNat) % 100) := by
  have hcarry := c.toNat_le
  have decimal : p + q + c.toNat = 10 * (p / 10 + q / 10) + (p % 10 + q % 10 + c.toNat) := by omega
  have hsum : a.toNat = (16 * (p / 10 + q / 10) + (p % 10 + q % 10 + c.toNat)) % 256 := by
    rw [ha, toNat_addedValue_byte, bcdByte_toNat hp, bcdByte_toNat hq]
    omega
  have hhalf : f.h = decide (16 ≤ p % 10 + q % 10 + c.toNat) := by
    rw [hh, addedHalf, bcdByte_toNat hp, bcdByte_toNat hq, decide_eq_decide]
    omega
  have hout : f.c = decide (256 ≤ 16 * (p / 10 + q / 10) + (p % 10 + q % 10 + c.toNat)) := by
    rw [hc, exactSum, bcdByte_toNat hp, bcdByte_toNat hq, decide_eq_decide]
    omega
  obtain ⟨carry, value⟩ := daa_of_digit_sums (by omega) (by omega) hsum hhalf hout
  rw [decimal]
  refine ⟨carry, BitVec.eq_of_toNat_eq ?_⟩
  rw [BitVec.toNat_ofNat, bcdByte_toNat (Nat.mod_lt _ (by decide))]
  exact value

/-- Settles O26: the correction by `aluDaa_eq`, the decimal sum by `daa_of_bcd_sum`. -/
theorem decimalAdjust : Obligations.DecimalAdjust := by
  have daa (s : State) := s.accUnary_spec .a (aluDaa_eq (s.freeFlag .v) s.ccr s.a)
  refine ⟨fun s => ?correction, ?decimal⟩
  case correction =>
    obtain ⟨hregs, hccr, hstill⟩ := daa s
    exact ⟨_, rfl, hregs, hstill, by rw [hccr]; rfl⟩
  case decimal =>
    intro s p q c hp hq bcd sum ha hh hc
    obtain ⟨carry, value⟩ := daa_of_bcd_sum hp hq ha hh hc
    obtain ⟨hregs, hccr, -⟩ := daa s
    exact ⟨_, rfl, (congrArg Prod.fst hregs).trans value, (congrArg Ccr.c hccr).trans carry⟩

end Sys2Proof.Machine
end

section
/-!
SUPPORT. The branch conditions after a compare (46_branch_loop.md R503 to R518, R723 to R738 with R250, R300): what C,
Z and the exclusive or of N and V say of the operands, and what each condition therefore means.
-/

namespace Sys2Proof.Machine

/-! ## The flags of a compare -/

/-- The flags say how `p` and `q` compare, unsigned, as equals and signed. -/
structure Ccr.Compares {n : Nat} (f : Ccr) (p q : BitVec n) : Prop where
  lower : f.c = decide (p.toNat < q.toNat)
  equal : f.z = decide (p = q)
  less : (f.n ^^ f.v) = decide (p.toInt < q.toInt)

/-- A difference with no borrow in is the difference of the bit vectors. -/
theorem subtractedValue_noBorrow {n : Nat} (p q : BitVec n) : subtractedValue p q false = p - q := by
  apply BitVec.eq_of_toInt_eq
  rw [subtractedValue, BitVec.toInt_ofInt, BitVec.toInt_sub, BitVec.toInt_eq_toNat_bmod p,
    BitVec.toInt_eq_toNat_bmod q]
  simp

/-- V after a subtraction, by the library's name. -/
theorem outOfRange_sub {n : Nat} (p q : BitVec n) : outOfRange n (p.toInt - q.toInt) = p.ssubOverflow q := by
  rw [outOfRange, BitVec.ssubOverflow, Bool.decide_or, Bool.or_comm]

/-- A difference that does not fit has the wrong sign, and then V is set: N differs from V exactly below zero. -/
theorem sign_of_difference {n : Nat} (p q : BitVec n) :
    ((p - q).msb ^^ outOfRange n (p.toInt - q.toInt)) = decide (p.toInt < q.toInt) := by
  rw [outOfRange_sub]
  by_cases hover : p.ssubOverflow q = true
  · have signs := (BitVec.ssubOverflow_eq p q).symm.trans hover
    simp only [BitVec.msb_eq_toInt, Bool.or_eq_true, Bool.and_eq_true, Bool.not_eq_true', decide_eq_true_eq,
      decide_eq_false_iff_not] at signs
    rw [hover, Bool.xor_true, BitVec.msb_eq_toInt, ← decide_not, decide_eq_decide]
    omega
  · rw [Bool.eq_false_of_not_eq_true hover, Bool.xor_false, BitVec.msb_eq_toInt,
      BitVec.toInt_sub_of_not_ssubOverflow hover, decide_eq_decide]
    omega

/-- A compare with no borrow in leaves such flags. -/
theorem compares_subtractedCcr {n : Nat} (f : Ccr) (p q : BitVec n) : (subtractedCcr f p q false).Compares p q where
  lower := rfl
  equal := by
    simp only [subtractedCcr, subtractedValue_noBorrow, sub_eq_zero]
  less := by
    have exact_difference : p.toInt - q.toInt - (false.toNat : Int) = p.toInt - q.toInt := Int.sub_zero _
    rw [subtractedCcr, exact_difference, subtractedValue_noBorrow, sign_of_difference]

section conditions
variable {n : Nat} {f : Ccr} {p q : BitVec n} (h : f.Compares p q)
include h

theorem Ccr.Compares.higher_iff : condHigher f = true ↔ q.toNat < p.toNat := by
  rw [condHigher, h.lower, h.equal]
  simp only [← BitVec.toNat_inj, Bool.not_eq_true', Bool.or_eq_false_iff, decide_eq_false_iff_not]
  omega

theorem Ccr.Compares.lowerSame_iff : condLowerSame f = true ↔ p.toNat ≤ q.toNat := by
  rw [condLowerSame, h.lower, h.equal]
  simp only [← BitVec.toNat_inj, Bool.or_eq_true, decide_eq_true_eq]
  omega

theorem Ccr.Compares.lower_iff : f.c = true ↔ p.toNat < q.toNat := by
  rw [h.lower, decide_eq_true_eq]

theorem Ccr.Compares.higherSame_iff : (!f.c) = true ↔ q.toNat ≤ p.toNat := by
  rw [Bool.not_eq_true', ← Bool.not_eq_true, h.lower_iff, Nat.not_lt]

theorem Ccr.Compares.less_iff : condLess f = true ↔ p.toInt < q.toInt := by
  rw [condLess, h.less, decide_eq_true_eq]

theorem Ccr.Compares.greaterEqual_iff : condGreaterEqual f = true ↔ q.toInt ≤ p.toInt := by
  rw [condGreaterEqual, h.less, Bool.not_eq_true', decide_eq_false_iff_not, Int.not_lt]

theorem Ccr.Compares.greater_iff : condGreater f = true ↔ q.toInt < p.toInt := by
  rw [condGreater, h.less, h.equal]
  simp only [← BitVec.toInt_inj, Bool.not_eq_true', Bool.or_eq_false_iff, decide_eq_false_iff_not]
  omega

theorem Ccr.Compares.lessEqual_iff : condLessEqual f = true ↔ p.toInt ≤ q.toInt := by
  rw [condLessEqual, h.less, h.equal]
  simp only [← BitVec.toInt_inj, Bool.or_eq_true, decide_eq_true_eq]
  omega

theorem Ccr.Compares.equal_iff : f.z = true ↔ p = q := by
  rw [h.equal, decide_eq_true_eq]

theorem Ccr.Compares.notEqual_iff : (!f.z) = true ↔ p ≠ q := by
  rw [Bool.not_eq_true', ← Bool.not_eq_true, h.equal_iff]

end conditions

/-! ## The branches -/

/-- A branch goes to its target when its condition holds, and on when it does not. -/
theorem State.branchIf_pc (s : State) {taken : Bool} {cond : Prop} (h : taken = true ↔ cond) (offset : Word) :
    (cond → (s.branchIf taken offset).pc = BitVec.ofInt 16 (s.pc.toNat + offset.toInt)) ∧
      (¬cond → (s.branchIf taken offset).pc = s.pc) := by
  have target : s.pc + offset = BitVec.ofInt 16 (s.pc.toNat + offset.toInt) := by
    rw [BitVec.ofInt_add, BitVec.ofInt_toInt, BitVec.ofInt_natCast, BitVec.ofNat_toNat, BitVec.setWidth_eq]
  rw [← h, ← target, State.branchIf]
  exact ⟨fun ht => by rw [if_pos ht]; rfl, fun hf => by rw [if_neg hf]⟩

theorem State.shortBranch_pc (s : State) {taken : Bool} {cond : Prop} (h : taken = true ↔ cond) (rel : Byte) :
    (cond → (s.shortBranch taken rel).pc = BitVec.ofInt 16 (s.pc.toNat + rel.toInt)) ∧
      (¬cond → (s.shortBranch taken rel).pc = s.pc) := by
  have offset : (sextByte rel).toInt = rel.toInt := BitVec.toInt_signExtend_of_le (by decide)
  have goes := s.branchIf_pc h (sextByte rel)
  rwa [offset] at goes

/-- Settles O46: every compare leaves flags that say how its operands compare, and each condition reads them so. -/
theorem conditionsAfterCompare : Obligations.ConditionsAfterCompare := by
  unfold Obligations.ConditionsAfterCompare
  intro means s t
  have meant {n : Nat} {p q : BitVec n} {u : State} (hu : u.ccr = subtractedCcr s.ccr p q false)
      (ht : (.next u : Result) = .next t) : means p q t := by
    obtain rfl : u = t := by injection ht
    have h : u.ccr.Compares p q := hu ▸ compares_subtractedCcr s.ccr p q
    refine ⟨fun rel => ?short, fun rel => ?long⟩ <;>
      simp only [List.forall_mem_cons, List.not_mem_nil, false_implies, implies_true, and_true]
    case short =>
      exact ⟨⟨_, rfl, u.shortBranch_pc h.higher_iff rel⟩, ⟨_, rfl, u.shortBranch_pc h.higherSame_iff rel⟩,
        ⟨_, rfl, u.shortBranch_pc h.lower_iff rel⟩, ⟨_, rfl, u.shortBranch_pc h.lowerSame_iff rel⟩,
        ⟨_, rfl, u.shortBranch_pc h.greater_iff rel⟩, ⟨_, rfl, u.shortBranch_pc h.greaterEqual_iff rel⟩,
        ⟨_, rfl, u.shortBranch_pc h.less_iff rel⟩, ⟨_, rfl, u.shortBranch_pc h.lessEqual_iff rel⟩,
        ⟨_, rfl, u.shortBranch_pc h.equal_iff rel⟩, ⟨_, rfl, u.shortBranch_pc h.notEqual_iff rel⟩⟩
    case long =>
      exact ⟨⟨_, rfl, u.branchIf_pc h.higher_iff rel⟩, ⟨_, rfl, u.branchIf_pc h.higherSame_iff rel⟩,
        ⟨_, rfl, u.branchIf_pc h.lower_iff rel⟩, ⟨_, rfl, u.branchIf_pc h.lowerSame_iff rel⟩,
        ⟨_, rfl, u.branchIf_pc h.greater_iff rel⟩, ⟨_, rfl, u.branchIf_pc h.greaterEqual_iff rel⟩,
        ⟨_, rfl, u.branchIf_pc h.less_iff rel⟩, ⟨_, rfl, u.branchIf_pc h.lessEqual_iff rel⟩,
        ⟨_, rfl, u.branchIf_pc h.equal_iff rel⟩, ⟨_, rfl, u.branchIf_pc h.notEqual_iff rel⟩⟩
  have byte (r : Acc) (op : Src8) :
      (s.accTest (aluSub false false) r op).ccr = subtractedCcr s.ccr (s.acc r) (s.src8 op).1 false := by
    obtain ⟨-, hccr, -⟩ := s.accTest_spec r op (aluSub8_exact false s.ccr (s.acc r) (s.src8 op).1)
    exact hccr
  have word (r : Wide) (op : Src16) : (s.wideTest (aluSub false false) r op).ccr =
      subtractedCcr s.ccr ((s.src16 op).2.wide r) (s.src16 op).1 false := by
    obtain ⟨-, hccr, -⟩ := s.wideTest_spec r op (aluSub16_plain s.ccr ((s.src16 op).2.wide r) (s.src16 op).1)
    exact hccr
  refine ⟨fun op => ⟨meant (byte .a op), meant (byte .b op)⟩, fun op => ?d, fun op => meant (word .x op),
    fun op => meant (word .y op), fun op => meant (word .sp op), fun h => ?cba⟩
  case d =>
    have hd : (s.src16 op).2.wide .d = s.d := s.src16_d op
    exact meant (hd ▸ word .d op)
  case cba => exact meant rfl ((exec_cba s).symm.trans h)

end Sys2Proof.Machine
end

section
/-!
SUPPORT. Tests, clears and Boolean operations (42_compare_logic_clr_com_neg.md sections 2, 3 and 5: R315 to R337, R350
to R355; 44_bit_shift_rotate.md R404 to R407).
-/

namespace Sys2Proof.Machine

/-! ## Tests (R315 to R321) -/

/-- The flags of a test: those of a load of the value, with C cleared (R315). -/
def testedCcr {n : Nat} (f : Ccr) (v : BitVec n) : Ccr := { loadedCcr f v with c := false }

theorem aluTst_eq {n : Nat} (f : Ccr) (p : BitVec n) : aluTst f p = (p, testedCcr f p) := rfl

/-- An accumulator written with its own value is as before. -/
theorem State.setAcc_acc_regs (s : State) (r : Acc) : (s.setAcc r (s.acc r)).regs = s.regs := by
  cases r <;> rfl

theorem State.accUnary_tst (s : State) (r : Acc) :
    (s.accUnary aluTst r).regs = s.regs ∧ (s.accUnary aluTst r).ccr = testedCcr s.ccr (s.acc r) ∧
      s.still (s.accUnary aluTst r) := by
  obtain ⟨hregs, hrest⟩ := s.accUnary_spec r (aluTst_eq s.ccr (s.acc r))
  exact ⟨hregs.trans (s.setAcc_acc_regs r), hrest⟩

/-- So is a 16-bit register, D with both its halves. -/
theorem State.setWide_wide_regs (s : State) (r : Wide) : (s.setWide r (s.wide r)).regs = s.regs := by
  cases r
  case d => simp [State.setWide, State.wide, State.setD, State.d, State.regs]
  case x | y | sp => rfl

theorem State.wideUnary_tst (s : State) (r : Wide) :
    (s.wideUnary aluTst r).regs = s.regs ∧ (s.wideUnary aluTst r).ccr = testedCcr s.ccr (s.wide r) ∧
      s.still (s.wideUnary aluTst r) := by
  obtain ⟨hregs, hrest⟩ := s.wideUnary_spec r (aluTst_eq s.ccr (s.wide r))
  exact ⟨hregs.trans (s.setWide_wide_regs r), hrest⟩

/-- A test of memory sets flags alone, of the operand that its addressing mode finds. -/
theorem State.testByte_eq (s : State) (op : ExtIdx) : s.testByte op =
    (s.eaExtIdx op).2.setCcr (testedCcr s.ccr (s.read8 (s.eaExtIdx op).1)) := by
  simp only [State.testByte, State.eaExtIdx_ccr, State.read8_of_bus (s.eaExtIdx_bus op), aluTst_eq]

theorem State.testWord_eq (s : State) (op : ExtIdx) : s.testWord op =
    (s.eaExtIdx op).2.setCcr (testedCcr s.ccr (s.read16 (s.eaExtIdx op).1)) := by
  simp only [State.testWord, State.eaExtIdx_ccr, State.read16_of_bus (s.eaExtIdx_bus op), aluTst_eq]

/-! ## Clears (R350 to R355) -/

/-- A clear of a register ends: the flags of before it with N, V, C clear and Z set. -/
theorem State.RegsOnly.cleared {s u : State} (h : s.RegsOnly u) :
    (u.flags clearedFlags).regs = u.regs ∧ (u.flags clearedFlags).ccr = clearedFlags s.ccr ∧
      s.still (u.flags clearedFlags) := by
  rw [State.flags, h.ccr]
  exact h.computed _

/-- A clear of memory writes zero and sets flags by those of before the addressing mode has acted. -/
theorem State.clearByte_eq (s : State) (op : ExtIdx) :
    s.clearByte op = ((s.eaExtIdx op).2.write8 (s.eaExtIdx op).1 0).setCcr (clearedFlags s.ccr) := by
  rw [← s.eaExtIdx_ccr op, ← (s.eaExtIdx op).2.write8_ccr (s.eaExtIdx op).1 0]
  rfl

theorem State.clearWord_eq (s : State) (op : ExtIdx) :
    s.clearWord op = ((s.eaExtIdx op).2.write16 (s.eaExtIdx op).1 0).setCcr (clearedFlags s.ccr) := by
  rw [← s.eaExtIdx_ccr op, ← (s.eaExtIdx op).2.write16_ccr (s.eaExtIdx op).1 0]
  rfl

/-- Settles O29: tests end in flags alone, clears in a zero written, on registers and on memory. -/
theorem testsAndClears : Obligations.TestsAndClears := by
  refine ⟨fun s => ⟨?testRegister, ?clearRegister⟩, fun s op => ⟨?testMemory, ?clearByte, ?clearWord⟩⟩
  case testRegister =>
    simp only [List.forall_mem_cons, List.not_mem_nil, false_implies, implies_true, and_true]
    exact ⟨⟨_, rfl, s.accUnary_tst .a⟩, ⟨_, rfl, s.accUnary_tst .b⟩, ⟨_, rfl, s.wideUnary_tst .x⟩,
      ⟨_, rfl, s.wideUnary_tst .y⟩⟩
  case clearRegister =>
    simp only [List.forall_mem_cons, List.not_mem_nil, false_implies, implies_true, and_true]
    exact ⟨⟨_, rfl, (s.regsOnly_setAcc .a 0).cleared⟩, ⟨_, rfl, (s.regsOnly_setAcc .b 0).cleared⟩,
      ⟨_, rfl, (s.regsOnly_setWide .x 0).cleared⟩, ⟨_, rfl, (s.regsOnly_setWide .y 0).cleared⟩⟩
  case testMemory =>
    simp only [List.forall_mem_cons, List.not_mem_nil, false_implies, implies_true, and_true]
    have flagsAlone := (s.eaExtIdx op).2.regsOnly_refl.computedFrom (s.eaExtIdx_modeOnly op)
    exact ⟨⟨_, next_congr (s.testByte_eq op), flagsAlone _⟩, ⟨_, next_congr (s.testWord_eq op), flagsAlone _⟩⟩
  case clearByte =>
    exact ⟨_, next_congr (s.clearByte_eq op), State.write8_regs _ _ 0, rfl, State.storedByte_write8 _ _ 0 _,
      State.frame_of_write8 (s.eaExtIdx_modeOnly op) _ 0 _⟩
  case clearWord =>
    exact ⟨_, next_congr (s.clearWord_eq op), State.write16_regs _ _ 0, rfl, State.storedWord_write16 _ _ 0 _,
      State.frame_of_write16 (s.eaExtIdx_modeOnly op) _ 0 _⟩

/-! ## Boolean operations (R325 to R337, R404 to R407) -/

/-- The operation on bit vectors acts on each bit as `bit` does. -/
def BitByBit {n : Nat} (f : BitVec n → BitVec n → BitVec n) (bit : Bool → Bool → Bool) : Prop :=
  ∀ p q k, (f p q).getLsbD k = bit (p.getLsbD k) (q.getLsbD k)

theorem bitByBit_and {n : Nat} : BitByBit (n := n) (· &&& ·) (fun x y => x && y) := fun _ _ _ => BitVec.getLsbD_and

theorem bitByBit_or {n : Nat} : BitByBit (n := n) (· ||| ·) (fun x y => x || y) := fun _ _ _ => BitVec.getLsbD_or

theorem bitByBit_xor {n : Nat} : BitByBit (n := n) (· ^^^ ·) (fun x y => x != y) := fun _ _ _ => BitVec.getLsbD_xor

/-- A Boolean operation gives its value with the flags of a load of it. -/
theorem aluLogic_eq {n : Nat} (f : BitVec n → BitVec n → BitVec n) (c : Ccr) (p q : BitVec n) :
    aluLogic f c p q = (f p q, loadedCcr c (f p q)) := rfl

/-- What holds of the value computed holds of a value that is given bit by bit. -/
theorem BitByBit.ends {n : Nat} {f : BitVec n → BitVec n → BitVec n} {bit : Bool → Bool → Bool} (h : BitByBit f bit)
    {p q : BitVec n} {Ends : BitVec n → Prop} (hends : Ends (f p q)) :
    ∃ v, (∀ k < n, v.getLsbD k = bit (p.getLsbD k) (q.getLsbD k)) ∧ Ends v :=
  ⟨f p q, fun k _ => h p q k, hends⟩

/-- Settles O30: each operation acts bit by bit, and ends as its shape says, the register written or not. -/
theorem bitwiseLogic : Obligations.BitwiseLogic := by
  refine ⟨fun s op => ⟨?acc, ?accTest⟩, fun s op => ⟨?index, ?indexTest⟩⟩ <;>
    simp only [List.forall_mem_cons, List.not_mem_nil, false_implies, implies_true, and_true]
  case acc =>
    have writes (f : Byte → Byte → Byte) (r : Acc) := s.accOp_spec r op (aluLogic_eq f s.ccr (s.acc r) (s.src8 op).1)
    exact ⟨bitByBit_and.ends ⟨_, rfl, writes _ .a⟩, bitByBit_and.ends ⟨_, rfl, writes _ .b⟩,
      bitByBit_or.ends ⟨_, rfl, writes _ .a⟩, bitByBit_or.ends ⟨_, rfl, writes _ .b⟩,
      bitByBit_xor.ends ⟨_, rfl, writes _ .a⟩, bitByBit_xor.ends ⟨_, rfl, writes _ .b⟩⟩
  case accTest =>
    have tests (r : Acc) := s.accTest_spec r op (aluLogic_eq (· &&& ·) s.ccr (s.acc r) (s.src8 op).1)
    exact ⟨bitByBit_and.ends ⟨_, rfl, tests .a⟩, bitByBit_and.ends ⟨_, rfl, tests .b⟩⟩
  case index =>
    have writes (f : Word → Word → Word) (r : Wide) :=
      s.wideOp_spec r op (aluLogic_eq f s.ccr ((s.src16 op).2.wide r) (s.src16 op).1)
    exact ⟨bitByBit_and.ends ⟨_, rfl, writes _ .x⟩, bitByBit_and.ends ⟨_, rfl, writes _ .y⟩,
      bitByBit_or.ends ⟨_, rfl, writes _ .x⟩, bitByBit_or.ends ⟨_, rfl, writes _ .y⟩,
      bitByBit_xor.ends ⟨_, rfl, writes _ .x⟩, bitByBit_xor.ends ⟨_, rfl, writes _ .y⟩⟩
  case indexTest =>
    have tests (r : Wide) :=
      s.wideTest_spec r op (aluLogic_eq (· &&& ·) s.ccr ((s.src16 op).2.wide r) (s.src16 op).1)
    exact ⟨bitByBit_and.ends ⟨_, rfl, tests .x⟩, bitByBit_and.ends ⟨_, rfl, tests .y⟩⟩

end Sys2Proof.Machine
end

section
/-!
SUPPORT. The products (43_mul_div.md R380 to R382): a product of two bytes fits a word and one of two words fits the
double word Y:D, unsigned and signed.
-/

namespace Sys2Proof.Machine

/-! ## A double word and its halves -/

theorem highWord_append_lowWord (v : BitVec 32) : highWord v ++ lowWord v = v := BitVec.extractLsb'_append_extractLsb'

theorem msb_highWord (v : BitVec 32) : (highWord v).msb = v.msb := by
  rw [highWord, BitVec.msb_extractLsb']
  rfl

theorem msb_lowWord (v : BitVec 32) : (lowWord v).msb = v.getLsbD 15 := by
  rw [lowWord, BitVec.msb_eq_getLsbD_last, BitVec.getLsbD_extractLsb']
  rfl

/-! ## Exact products -/

/-- Twice the width holds every product. -/
theorem toNat_zeroExtend_mul {n m : Nat} (h : n + n ≤ m) (p q : BitVec n) :
    (p.zeroExtend m * q.zeroExtend m).toNat = p.toNat * q.toNat := by
  have extended (r : BitVec n) : (r.zeroExtend m).toNat = r.toNat := BitVec.toNat_setWidth_of_le (by omega)
  have fits : p.toNat * q.toNat < 2 ^ m :=
    calc p.toNat * q.toNat < 2 ^ n * 2 ^ n := Nat.mul_lt_mul'' p.isLt q.isLt
      _ = 2 ^ (n + n) := (Nat.pow_add 2 n n).symm
      _ ≤ 2 ^ m := Nat.pow_le_pow_right (by decide) h
  rw [BitVec.toNat_mul_of_lt (by rwa [extended, extended]), extended, extended]

theorem toInt_signExtend_mul (p q : Word) : (p.signExtend 32 * q.signExtend 32).toInt = p.toInt * q.toInt := by
  have lower := BitVec.le_toInt_mul_toInt (x := p) (y := q)
  have upper := BitVec.toInt_mul_toInt_le (x := p) (y := q)
  rw [BitVec.toInt_mul, BitVec.toInt_signExtend_of_le (by decide), BitVec.toInt_signExtend_of_le (by decide)]
  exact Int.bmod_eq_of_le_mul_two (by omega) (by omega)

/-- Bit 7 of a word as a bit of its number. -/
theorem bit7_word (p : Word) : p.getLsbD 7 = decide (p.toNat / 128 % 2 = 1) := by
  rw [← BitVec.testBit_toNat, Nat.testBit_eq_decide_div_mod_eq]

/-- Z of a value, by its number. -/
theorem beq_zero_toNat {n : Nat} (r : BitVec n) : (r == 0) = decide (r.toNat = 0) := by
  rw [beq_zero, decide_eq_decide, ← BitVec.toNat_inj, BitVec.ofNat_eq_ofNat, BitVec.toNat_ofNat, Nat.zero_mod]

/-- Z of a value, by its signed number. -/
theorem beq_zero_toInt {n : Nat} (r : BitVec n) : (r == 0) = decide (r.toInt = 0) := by
  rw [beq_zero, decide_eq_decide, ← BitVec.toInt_inj, BitVec.ofNat_eq_ofNat, BitVec.toInt_zero]

/-! ## How EMUL and EMULS end -/

theorem State.regsOnly_setYd (s : State) (v : BitVec 32) : s.RegsOnly (s.setYd v) :=
  (s.regsOnly_setAutoReg .y (highWord v)).trans (State.regsOnly_setD _ (lowWord v))

theorem State.setYd_yd (s : State) (v : BitVec 32) : (s.setYd v).yd = v := by
  rw [State.yd, State.setYd, State.setD_y, State.setD_d]
  exact highWord_append_lowWord v

/-- A product in Y:D: N and Z of it, C the top bit of its low word. -/
theorem State.productInYd_spec (s : State) (r : BitVec 32) :
    let t := (s.setYd r).flags (mulFlags r)
    t.yd = r ∧ (t.x, t.sp) = (s.x, s.sp) ∧ t.ccr = { s.ccr with n := t.y.msb, z := r == 0, c := t.d.msb } ∧
      s.still t := by
  intro t
  have hd : t.d = lowWord r := (s.setY (highWord r)).setD_d (lowWord r)
  have hn : t.y.msb = r.msb := msb_highWord r
  have hc : t.d.msb = r.getLsbD 15 := by rw [hd, msb_lowWord]
  refine ⟨s.setYd_yd r, rfl, ?_, (s.regsOnly_setYd r).still _⟩
  rw [hn, hc]
  rfl

/-- Settles O36: the products are exact by `toNat_zeroExtend_mul` and `toInt_signExtend_mul`. -/
theorem multiplications : Obligations.Multiplications := by
  refine ⟨fun v rest => ?encodings, fun s => ⟨?mul, ?emul, ?emuls⟩⟩
  case encodings =>
    exact ⟨reads_encode (i := .mul) rfl rest, reads_encode (i := .emul) rfl rest, reads_encode (i := .emuls) rfl rest⟩
  case mul =>
    have product := toNat_zeroExtend_mul (m := 16) (by decide) s.a s.b
    refine ⟨_, rfl, (congrArg BitVec.toNat (s.setD_d _)).trans product, rfl, ?_, (s.regsOnly_setD _).still _⟩
    rw [← product, ← bit7_word]
    rfl
  case emul =>
    have product := toNat_zeroExtend_mul (m := 32) (by decide) s.d s.y
    obtain ⟨hyd, hkept, hccr, hstill⟩ := s.productInYd_spec (s.d.zeroExtend 32 * s.y.zeroExtend 32)
    refine ⟨_, rfl, (congrArg BitVec.toNat hyd).trans product, hkept, ?_, hstill⟩
    rw [← product, ← beq_zero_toNat]
    exact hccr
  case emuls =>
    have product := toInt_signExtend_mul s.d s.y
    obtain ⟨hyd, hkept, hccr, hstill⟩ := s.productInYd_spec (s.d.signExtend 32 * s.y.signExtend 32)
    refine ⟨_, rfl, (congrArg BitVec.toInt hyd).trans product, hkept, ?_, hstill⟩
    rw [← product, ← beq_zero_toInt]
    exact hccr

end Sys2Proof.Machine
end

section
/-!
SUPPORT. The divisions (43_mul_div.md R383 to R389): which quotients fit a word, and how a division ends in each of its
cases.
-/

namespace Sys2Proof.Machine

/-! ## The numbers that a word holds -/

theorem toNat_ofNat_word {k : Nat} (h : k < 65536) : (BitVec.ofNat 16 k).toNat = k := by
  rw [BitVec.toNat_ofNat, Nat.mod_eq_of_lt h]

theorem toInt_ofInt_word {k : Int} (h : ¬outOfRange 16 k = true) : (BitVec.ofInt 16 k).toInt = k := by
  rw [outOfRange, decide_eq_true_eq] at h
  exact BitVec.toInt_ofInt_eq_self (by decide) (by omega) (by omega)

theorem outOfRange_word (k : Int) : outOfRange 16 k = true ↔ 32767 < k ∨ k < -32768 := by
  rw [outOfRange, decide_eq_true_eq]
  omega

theorem outOfRange_toInt {n : Nat} (p : BitVec n) : outOfRange n p.toInt = false := by
  have := p.le_toInt
  have := p.toInt_lt
  rw [outOfRange, decide_eq_false_iff_not]
  omega

/-! ## Quotients and remainders -/

/-- An unsigned remainder is below its divisor. -/
theorem mod_toNat_lt (k : Nat) {x : Word} (h : x.toNat ≠ 0) : k % x.toNat < 65536 :=
  (Nat.mod_lt k (Nat.pos_of_ne_zero h)).trans x.isLt

/-- A signed remainder is closer to zero than its divisor. -/
theorem tmod_toInt_fits (k : Int) {x : Word} (h : x.toInt ≠ 0) : ¬outOfRange 16 (k.tmod x.toInt) = true := by
  have closer : (k.tmod x.toInt).natAbs < x.toInt.natAbs := by
    rw [Int.natAbs_tmod]
    exact Nat.mod_lt _ (Int.natAbs_pos.mpr h)
  have := x.le_toInt
  have := x.toInt_lt
  rw [outOfRange_word]
  omega

/-- The one quotient of two signed words that no word holds is that of -32768 by -1 (R387). -/
theorem outOfRange_tdiv_word (p q : Word) :
    outOfRange 16 (p.toInt.tdiv q.toInt) = true ↔ p = 0x8000#16 ∧ q = 0xFFFF#16 := by
  constructor
  · contrapose!
    intro h
    have fits : (p.sdiv q).toInt = p.toInt.tdiv q.toInt :=
      BitVec.toInt_sdiv_of_ne_or_ne p q (not_and_or.mp fun ⟨hp, hq⟩ => h hp hq)
    rw [← fits, outOfRange_toInt]
    decide
  · rintro ⟨rfl, rfl⟩
    decide

/-- A fraction below one has sixteen bits after the point (R385). -/
theorem fraction_lt {d x : Nat} (h : d < x) : d * 65536 / x < 65536 := by
  rw [Nat.div_lt_iff_lt_mul (Nat.zero_lt_of_lt h)]
  omega

/-! ## The flags of a quotient -/

theorem beq_zero_ofNat {k : Nat} (h : k < 65536) : (BitVec.ofNat 16 k == 0) = decide (k = 0) := by
  rw [beq_zero_toNat, toNat_ofNat_word h]

theorem quotientFlags_ofNat {k : Nat} (h : k < 65536) (f : Ccr) : quotientFlags (BitVec.ofNat 16 k) f =
    { f with n := (BitVec.ofNat 16 k).msb, z := decide (k = 0), v := false, c := false } := by
  rw [quotientFlags, beq_zero_ofNat h]

/-- The flags of FDIV and IDIV, which leave N alone (R385, R386). -/
theorem quotientZ_ofNat {k : Nat} (h : k < 65536) (f : Ccr) :
    { f with z := BitVec.ofNat 16 k == 0, v := false, c := false } =
      { f with z := decide (k = 0), v := false, c := false } := by
  rw [beq_zero_ofNat h]

theorem quotientFlags_ofInt {k : Int} (h : ¬outOfRange 16 k = true) (f : Ccr) : quotientFlags (BitVec.ofInt 16 k) f =
    { f with n := decide (k < 0), z := decide (k = 0), v := false, c := false } := by
  rw [quotientFlags, beq_zero_toInt, BitVec.msb_eq_toInt, toInt_ofInt_word h]

/-! ## How a division ends -/

/-- A zero divisor, where no register changes. -/
theorem State.divByZeroFlags_spec (s : State) :
    let t := s.divByZeroFlags
    s.still t ∧ t.regs = s.regs ∧ t.ccr = { s.ccr with n := t.ccr.n, z := t.ccr.z, v := t.ccr.v, c := true } :=
  ⟨s.regsOnly_refl.still _, rfl, rfl⟩

/-- A quotient that does not fit, whatever became of the registers. -/
theorem State.RegsOnly.divOverflowFlags_spec {s u : State} (h : s.RegsOnly u) :
    let t := u.divOverflowFlags
    s.still t ∧ t.regs = u.regs ∧ t.ccr = { s.ccr with n := t.ccr.n, z := t.ccr.z, v := true, c := false } := by
  rw [State.divOverflowFlags, State.flags, h.ccr]
  exact ⟨h.still _, rfl, rfl⟩

/-- A quotient in an index register and a remainder in D. -/
theorem State.regsOnly_quotient (s : State) (i : AutoReg) (q r : Word) : s.RegsOnly ((s.setAutoReg i q).setD r) :=
  (s.regsOnly_setAutoReg i q).trans (State.regsOnly_setD _ r)

theorem State.unsignedRemainder (s : State) (k : Nat) {x : Word} (h : x.toNat ≠ 0) :
    (s.setD (BitVec.ofNat 16 (k % x.toNat))).d.toNat = k % x.toNat := by
  rw [State.setD_d, toNat_ofNat_word (mod_toNat_lt k h)]

/-- The signed remainder is what the quotient, truncated towards zero, leaves (R388). -/
theorem State.signedRemainder (s : State) {k : Int} {x : Word} (h : x.toInt ≠ 0)
    (hq : ¬outOfRange 16 (k.tdiv x.toInt) = true) : (s.setD (BitVec.ofInt 16 (k.tmod x.toInt))).d.toInt =
      k - (BitVec.ofInt 16 (k.tdiv x.toInt)).toInt * x.toInt := by
  rw [State.setD_d, toInt_ofInt_word (tmod_toInt_fits k h), toInt_ofInt_word hq, Int.tmod_def, Int.mul_comm]

/-- Settles O37: in each case the machine takes its own branch for that case, and where no error is left the quotient
fits a word. -/
theorem divisions : Obligations.Divisions := by
  refine ⟨fun s => ?unsigned, fun s => ?signed⟩
  case unsigned =>
    intro x d yd
    refine ⟨?ediv, ?fdiv, ?idiv⟩
    case ediv =>
      split_ifs with hzero hlarge
      · exact ⟨_, next_congr (if_pos hzero), s.divByZeroFlags_spec⟩
      · exact ⟨_, next_congr ((if_neg hzero).trans (if_pos hlarge)), s.regsOnly_refl.divOverflowFlags_spec⟩
      · have hq : yd / x < 65536 := Nat.lt_of_not_le hlarge
        have hr := (s.setY (BitVec.ofNat 16 (yd / x))).unsignedRemainder yd hzero
        exact ⟨_, next_congr ((if_neg hzero).trans (if_neg hlarge)), (s.regsOnly_quotient .y _ _).still _,
          toNat_ofNat_word hq, hr, rfl, quotientFlags_ofNat hq s.ccr⟩
    case fdiv =>
      split_ifs with herror
      · exact ⟨_, next_congr (if_pos herror), (s.regsOnly_quotient .x _ _).still _, rfl, rfl, rfl⟩
      · have hless : d < x := Nat.lt_of_not_le herror
        have hq : d * 65536 / x < 65536 := fraction_lt hless
        have hr := (s.setX (BitVec.ofNat 16 (d * 65536 / x))).unsignedRemainder (d * 65536) (Nat.ne_zero_of_lt hless)
        exact ⟨_, next_congr (if_neg herror), (s.regsOnly_quotient .x _ _).still _, rfl, toNat_ofNat_word hq, hr,
          quotientZ_ofNat hq s.ccr⟩
    case idiv =>
      split_ifs with hzero
      · exact ⟨_, next_congr (if_pos hzero), (s.regsOnly_quotient .x _ _).still _, rfl, rfl, rfl⟩
      · have hq : d / x < 65536 := (Nat.div_le_self d x).trans_lt s.d.isLt
        have hr := (s.setX (BitVec.ofNat 16 (d / x))).unsignedRemainder d hzero
        exact ⟨_, next_congr (if_neg hzero), (s.regsOnly_quotient .x _ _).still _, rfl, toNat_ofNat_word hq, hr,
          quotientZ_ofNat hq s.ccr⟩
  case signed =>
    intro x d yd
    refine ⟨?edivs, ?idivs⟩
    case edivs =>
      have overflows : outOfRange 16 (yd.tdiv x) = true ↔ 32767 < yd.tdiv x ∨ yd.tdiv x < -32768 := outOfRange_word _
      split_ifs with hzero hrange
      · exact ⟨_, next_congr (if_pos hzero), s.divByZeroFlags_spec⟩
      · exact ⟨_, next_congr ((if_neg hzero).trans (if_pos (overflows.mp hrange))),
          s.regsOnly_refl.divOverflowFlags_spec⟩
      · have hr := (s.setY (BitVec.ofInt 16 (yd.tdiv x))).signedRemainder hzero hrange
        exact ⟨_, next_congr ((if_neg hzero).trans (if_neg (mt overflows.mpr hrange))),
          (s.regsOnly_quotient .y _ _).still _, toInt_ofInt_word hrange, hr, rfl, quotientFlags_ofInt hrange s.ccr⟩
    case idivs =>
      have overflows : outOfRange 16 (d.tdiv x) = true ↔ s.d = 0x8000#16 ∧ s.x = 0xFFFF#16 := outOfRange_tdiv_word _ _
      split_ifs with hzero hrange
      · obtain ⟨hstill, hends⟩ := s.divByZeroFlags_spec
        exact ⟨_, next_congr (if_pos hzero), hstill, rfl, hends⟩
      · obtain ⟨hstill, -, hccr⟩ := (s.regsOnly_quotient .x (s.freeWord .x) (s.freeWord .d)).divOverflowFlags_spec
        exact ⟨_, next_congr ((if_neg hzero).trans (if_pos (overflows.mp hrange))), hstill, rfl, hccr⟩
      · have hr := (s.setX (BitVec.ofInt 16 (d.tdiv x))).signedRemainder hzero hrange
        exact ⟨_, next_congr ((if_neg hzero).trans (if_neg (mt overflows.mpr hrange))),
          (s.regsOnly_quotient .x _ _).still _, rfl, toInt_ofInt_word hrange, hr, quotientFlags_ofInt hrange s.ccr⟩

end Sys2Proof.Machine
end

section
/-!
SUPPORT. Shifts and rotates, the bits of a memory byte, and the branches on them (44_bit_shift_rotate.md R400 to R403,
R410 to R456; 46_branch_loop.md R519 to R521).
-/

namespace Sys2Proof.Machine

/-! ## Shifts and rotates (R410 to R456) -/

/-- Settles O28: each operation as its lemma of the arithmetic and logic unit says, in each of the four shapes. -/
theorem shiftsAndRotates : Obligations.ShiftsAndRotates := by
  refine ⟨fun s => ⟨?acc, ?wide⟩, fun s op => ⟨?byte, ?word⟩⟩ <;>
    simp only [List.forall_mem_cons, List.not_mem_nil, false_implies, implies_true, and_true]
  case acc =>
    have asl (r : Acc) := s.accUnary_spec r (aluAsl_byte s.ccr (s.acc r))
    have asr (r : Acc) := s.accUnary_spec r (aluAsr_byte s.ccr (s.acc r))
    have lsr (r : Acc) := s.accUnary_spec r (aluLsr_byte s.ccr (s.acc r))
    have rol (r : Acc) := s.accUnary_spec r (aluRol_byte s.ccr (s.acc r))
    have ror (r : Acc) := s.accUnary_spec r (aluRor_byte s.ccr (s.acc r))
    exact ⟨⟨_, rfl, asl .a⟩, ⟨_, rfl, asl .b⟩, ⟨_, rfl, asr .a⟩, ⟨_, rfl, asr .b⟩, ⟨_, rfl, lsr .a⟩, ⟨_, rfl, lsr .b⟩,
      ⟨_, rfl, rol .a⟩, ⟨_, rfl, rol .b⟩, ⟨_, rfl, ror .a⟩, ⟨_, rfl, ror .b⟩⟩
  case wide =>
    have asl (r : Wide) := s.wideUnary_spec r (aluAsl_word s.ccr (s.wide r))
    have asr (r : Wide) := s.wideUnary_spec r (aluAsr_word s.ccr (s.wide r))
    have lsr (r : Wide) := s.wideUnary_spec r (aluLsr_word s.ccr (s.wide r))
    have rol (r : Wide) := s.wideUnary_spec r (aluRol_word s.ccr (s.wide r))
    have ror (r : Wide) := s.wideUnary_spec r (aluRor_word s.ccr (s.wide r))
    exact ⟨⟨_, rfl, asl .d⟩, ⟨_, rfl, lsr .d⟩, ⟨_, rfl, asl .x⟩, ⟨_, rfl, asl .y⟩, ⟨_, rfl, asr .x⟩, ⟨_, rfl, asr .y⟩,
      ⟨_, rfl, lsr .x⟩, ⟨_, rfl, lsr .y⟩, ⟨_, rfl, rol .x⟩, ⟨_, rfl, rol .y⟩, ⟨_, rfl, ror .x⟩, ⟨_, rfl, ror .y⟩⟩
  case byte =>
    exact ⟨⟨_, rfl, s.byteUnary_spec op (aluAsl_byte _ _)⟩, ⟨_, rfl, s.byteUnary_spec op (aluAsr_byte _ _)⟩,
      ⟨_, rfl, s.byteUnary_spec op (aluLsr_byte _ _)⟩, ⟨_, rfl, s.byteUnary_spec op (aluRol_byte _ _)⟩,
      ⟨_, rfl, s.byteUnary_spec op (aluRor_byte _ _)⟩⟩
  case word =>
    exact ⟨⟨_, rfl, s.wordUnary_spec op (aluAsl_word _ _)⟩, ⟨_, rfl, s.wordUnary_spec op (aluAsr_word _ _)⟩,
      ⟨_, rfl, s.wordUnary_spec op (aluLsr_word _ _)⟩, ⟨_, rfl, s.wordUnary_spec op (aluRol_word _ _)⟩,
      ⟨_, rfl, s.wordUnary_spec op (aluRor_word _ _)⟩⟩

/-! ## Bits of a memory byte written (R400 to R403) -/

/-- A byte `v` stored ends with the flags of `w`, which for BTAS is another byte. -/
theorem State.stored_byte_flagsOf {s s1 : State} {target : Option AutoReg} (hm : s.modeOnly s1 target) (a : Word)
    (v w : Byte) :
    let t := (s1.write8 a v).flags (·.nzv0 w)
    t.regs = s1.regs ∧ t.ccr = loadedCcr s.ccr w ∧ s1.storedByte t a v ∧ s.frame s1 t target [s1.locate a] := by
  rw [State.flags_nzv0 ((s1.write8_ccr a v).trans (State.modeOnly_ccr hm))]
  exact ⟨s1.write8_regs a v, rfl, s1.storedByte_write8 a v _, State.frame_of_write8 hm a v _⟩

/-- BCLR and BSET store what they combine; the addressing mode does not change the byte they read. -/
theorem State.bitWrite_eq (s : State) (f : Byte → Byte → Byte) (op : DirExtIdx) (mask : Byte) :
    s.bitWrite f op mask = ((s.ea op).2.write8 (s.ea op).1 (f (s.read8 (s.ea op).1) mask)).flags
      (·.nzv0 (f (s.read8 (s.ea op).1) mask)) := by
  rw [← State.read8_of_bus (s.ea_bus op)]
  rfl

/-- BTAS stores the bits set, and takes its flags from those tested (R403). -/
theorem State.bitTestAndSet_eq (s : State) (op : DirExtIdx) (mask : Byte) :
    s.bitTestAndSet op mask = ((s.ea op).2.write8 (s.ea op).1 (s.read8 (s.ea op).1 ||| mask)).flags
      (·.nzv0 (s.read8 (s.ea op).1 &&& mask)) := by
  rw [← State.read8_of_bus (s.ea_bus op)]
  rfl

/-! ## Branches on the bits of a memory byte (R519 to R521) -/

/-- No bit of `p` that the mask selects is set. -/
theorem and_beq_zero_iff {n : Nat} (p mask : BitVec n) :
    (p &&& mask == 0#n) = true ↔ ∀ k < n, mask.getLsbD k = true → p.getLsbD k = false := by
  rw [beq_iff_eq, BitVec.eq_of_getLsbD_eq_iff]
  refine forall₂_congr fun k _ => ?_
  rw [BitVec.getLsbD_and, BitVec.getLsbD_zero, Bool.and_comm, Bool.and_eq_false_imp]

/-- No bit of `p` that the mask selects is clear: none of its complement is set. -/
theorem not_and_beq_zero_iff {n : Nat} (p mask : BitVec n) :
    (~~~p &&& mask == 0#n) = true ↔ ∀ k < n, mask.getLsbD k = true → p.getLsbD k = true := by
  rw [and_beq_zero_iff]
  refine forall₂_congr fun k hk => imp_congr_right fun _ => ?_
  rw [BitVec.getLsbD_not, decide_eq_true hk, Bool.true_and, Bool.not_eq_false']

/-- A branch taken refills the queue (R86, D7); one that is not taken leaves its marks. -/
theorem State.shortBranch_stale (s : State) {taken : Bool} {cond : Prop} (h : taken = true ↔ cond) (rel : Byte) :
    (cond → (s.shortBranch taken rel).stale = []) ∧ (¬cond → (s.shortBranch taken rel).stale = s.stale) := by
  rw [← h, State.shortBranch, State.branchIf]
  exact ⟨fun ht => by rw [if_pos ht]; rfl, fun hf => by rw [if_neg hf]⟩

/-- Taken or not, a branch changes nothing but the PC and the marks of queued bytes. -/
theorem State.shortBranch_keeps (s : State) (taken : Bool) (rel : Byte) :
    let t := s.shortBranch taken rel
    t.regs = s.regs ∧ t.ccr = s.ccr ∧ t.special = s.special ∧ t.bus = s.bus ∧ t.pageStored = s.pageStored := by
  cases taken <;> exact ⟨rfl, rfl, rfl, rfl, rfl⟩

/-- A bit-condition branch is a short branch; the addressing mode does not change the byte it reads. -/
theorem State.bitBranch_eq (s : State) (cond : Byte → Byte → Bool) (op : DirExtIdx) (mask rel : Byte) :
    s.bitBranch cond op mask rel = (s.ea op).2.shortBranch (cond (s.read8 (s.ea op).1) mask) rel := by
  rw [← State.read8_of_bus (s.ea_bus op)]
  rfl

/-- How a bit-condition branch ends, `selected` being what its condition says of the byte and the mask. -/
theorem State.bitBranch_spec (s : State) {cond : Byte → Byte → Bool} (op : DirExtIdx) {mask : Byte} (rel : Byte)
    {selected : Prop} (h : cond (s.read8 (s.ea op).1) mask = true ↔ selected) :
    let s1 := (s.ea op).2
    let t := s.bitBranch cond op mask rel
    (selected → t.pc = BitVec.ofInt 16 (s.pc.toNat + rel.toInt) ∧ t.stale = []) ∧
      (¬selected → t.pc = s.pc ∧ t.stale = s.stale) ∧
      t.regs = s1.regs ∧ s.modeOnly s1 (DirExtIdx.autoTarget op) ∧ t.ccr = s.ccr ∧ t.special = s.special ∧
      s.bytesKept t [] ∧ t.pageStored = s.pageStored := by
  rw [State.bitBranch_eq]
  obtain ⟨goes, stays⟩ := (s.ea op).2.shortBranch_pc h rel
  obtain ⟨refills, keepsQueue⟩ := (s.ea op).2.shortBranch_stale h rel
  obtain ⟨hregs, hccr, hspecial, hbus, hpage⟩ := (s.ea op).2.shortBranch_keeps _ rel
  rw [s.ea_pc op] at goes stays
  exact ⟨fun hs => ⟨goes hs, refills hs⟩, fun hs => ⟨stays hs, (keepsQueue hs).trans (s.ea_stale op)⟩, hregs,
    s.ea_modeOnly op, hccr.trans (s.ea_ccr op), hspecial.trans (s.ea_special op),
    State.bytesKept_of_bus (hbus.trans (s.ea_bus op)) [], hpage.trans (s.ea_pageStored op)⟩

/-- Settles O47: BCLR, BSET and BTAS end in a byte stored, BRCLR and BRSET in a branch on the bits selected. -/
theorem bitsOfMemory : Obligations.BitsOfMemory := by
  refine ⟨fun s op mask => ?write, fun s op mask rel => ?branch⟩ <;>
    simp only [List.forall_mem_cons, List.not_mem_nil, false_implies, implies_true, and_true]
  case write =>
    have store := State.stored_byte_flagsOf (s.ea_modeOnly op) (s.ea op).1
    exact ⟨⟨_, next_congr (s.bitWrite_eq _ op mask), store _ _⟩, ⟨_, next_congr (s.bitWrite_eq _ op mask), store _ _⟩,
      ⟨_, next_congr (s.bitTestAndSet_eq op mask), store _ _⟩⟩
  case branch =>
    exact ⟨⟨_, rfl, s.bitBranch_spec op rel (and_beq_zero_iff _ mask)⟩,
      ⟨_, rfl, s.bitBranch_spec op rel (not_and_beq_zero_iff _ mask)⟩⟩

end Sys2Proof.Machine
end

section
/-!
SUPPORT. Minimum and maximum (45_fuzzy_minmax_mac_table.md R480 to R488): the value chosen as a number, the flags of the
internal subtraction, and how a choice ends, into a register or into memory.
-/

namespace Sys2Proof.Machine

/-! ## The value and the flags -/

theorem maxOf_eq_ofNat {n : Nat} (p q : BitVec n) : maxOf p q = BitVec.ofNat n (max p.toNat q.toNat) := by
  rw [maxOf]
  split
  · next h => rw [Nat.max_eq_right h.le, BitVec.ofNat_toNat, BitVec.setWidth_eq]
  · next h => rw [Nat.max_eq_left (Nat.le_of_not_lt h), BitVec.ofNat_toNat, BitVec.setWidth_eq]

theorem minOf_eq_ofNat {n : Nat} (p q : BitVec n) : minOf p q = BitVec.ofNat n (min p.toNat q.toNat) := by
  rw [minOf]
  split
  · next h => rw [Nat.min_eq_right h.le, BitVec.ofNat_toNat, BitVec.setWidth_eq]
  · next h => rw [Nat.min_eq_left (Nat.le_of_not_lt h), BitVec.ofNat_toNat, BitVec.setWidth_eq]

theorem choiceFlags_byte (f : Ccr) (p q : Byte) : choiceFlags f p q = subtractedCcr f p q false :=
  congrArg Prod.snd (aluSub8_exact false f p q)

theorem choiceFlags_word (f : Ccr) (p q : Word) : choiceFlags f p q = subtractedCcr f p q false :=
  congrArg Prod.snd (aluSub16_plain f p q)

/-! ## How a choice ends -/

theorem State.indexed_modeOnly (s : State) (op : Indexed) : s.modeOnly (s.indexed op).2 (Indexed.autoTarget op) :=
  s.indexedFrom_modeOnly s.pc op

/-- No indexed mode moves the accumulator that A and B make up. -/
theorem State.indexed_d (s : State) (op : Indexed) : (s.indexed op).2.d = s.d := by
  rw [State.d, State.d, s.indexed_a, s.indexed_b]

theorem State.chooseA_spec (s : State) {f : Byte → Byte → Byte} (op : Indexed) {v : Byte}
    (h : f s.a (s.read8 (s.indexed op).1) = v) :
    let m := s.read8 (s.indexed op).1
    let t := s.chooseA f op
    t.regs = ((s.indexed op).2.setA v).regs ∧ t.ccr = subtractedCcr s.ccr s.a m false ∧
      s.frame (s.indexed op).2 t (Indexed.autoTarget op) [] := by
  intro m t
  have ends : t = ((s.indexed op).2.setA v).setCcr (subtractedCcr s.ccr s.a m false) := by
    simp only [t, m, State.chooseA, State.indexed_ccr, State.indexed_a, State.read8_of_bus (s.indexed_bus op),
      choiceFlags_byte, h]
  rw [ends]
  exact (State.regsOnly_setAcc _ .a v).computedFrom (s.indexed_modeOnly op) _

theorem State.chooseD_spec (s : State) {f : Word → Word → Word} (op : Indexed) {v : Word}
    (h : f s.d (s.read16 (s.indexed op).1) = v) :
    let m := s.read16 (s.indexed op).1
    let t := s.chooseD f op
    t.regs = ((s.indexed op).2.setD v).regs ∧ t.ccr = subtractedCcr s.ccr s.d m false ∧
      s.frame (s.indexed op).2 t (Indexed.autoTarget op) [] := by
  intro m t
  have ends : t = ((s.indexed op).2.setD v).setCcr (subtractedCcr s.ccr s.d m false) := by
    simp only [t, m, State.chooseD, State.indexed_ccr, State.indexed_d, State.read16_of_bus (s.indexed_bus op),
      choiceFlags_word, h]
  rw [ends]
  exact (State.regsOnly_setD _ v).computedFrom (s.indexed_modeOnly op) _

theorem State.chooseByte_spec (s : State) {f : Byte → Byte → Byte} (op : Indexed) {v : Byte}
    (h : f s.a (s.read8 (s.indexed op).1) = v) :
    let a := (s.indexed op).1
    let s1 := (s.indexed op).2
    let t := s.chooseByte f op
    t.regs = s1.regs ∧ t.ccr = subtractedCcr s.ccr s.a (s.read8 a) false ∧ s1.storedByte t a v ∧
      s.frame s1 t (Indexed.autoTarget op) [s1.locate a] := by
  intro a s1 t
  have ends : t = (s1.write8 a v).setCcr (subtractedCcr s.ccr s.a (s.read8 a) false) := by
    simp only [t, s1, a, State.chooseByte, State.indexed_ccr, State.indexed_a, State.read8_of_bus (s.indexed_bus op),
      choiceFlags_byte, h]
  rw [ends]
  exact ⟨s1.write8_regs a v, rfl, s1.storedByte_write8 a v _, State.frame_of_write8 (s.indexed_modeOnly op) a v _⟩

theorem State.chooseWord_spec (s : State) {f : Word → Word → Word} (op : Indexed) {v : Word}
    (h : f s.d (s.read16 (s.indexed op).1) = v) :
    let a := (s.indexed op).1
    let s1 := (s.indexed op).2
    let t := s.chooseWord f op
    t.regs = s1.regs ∧ t.ccr = subtractedCcr s.ccr s.d (s.read16 a) false ∧ s1.storedWord t a v ∧
      s.frame s1 t (Indexed.autoTarget op) (s1.wordLocs a v) := by
  intro a s1 t
  have ends : t = (s1.write16 a v).setCcr (subtractedCcr s.ccr s.d (s.read16 a) false) := by
    simp only [t, s1, a, State.chooseWord, State.indexed_ccr, State.indexed_d,
      State.read16_of_bus (s.indexed_bus op), choiceFlags_word, h]
  rw [ends]
  exact ⟨s1.write16_regs a v, rfl, s1.storedWord_write16 a v _, State.frame_of_write16 (s.indexed_modeOnly op) a v _⟩

/-- Settles O42: each instruction ends as its shape says, with the larger or the smaller value. -/
theorem minimumAndMaximum : Obligations.MinimumAndMaximum := by
  refine fun s op => ⟨?toA, ?byte, ?toD, ?word⟩ <;>
    simp only [List.forall_mem_cons, List.not_mem_nil, false_implies, implies_true, and_true]
  case toA =>
    exact ⟨⟨_, rfl, s.chooseA_spec op (maxOf_eq_ofNat _ _)⟩, ⟨_, rfl, s.chooseA_spec op (minOf_eq_ofNat _ _)⟩⟩
  case byte =>
    exact ⟨⟨_, rfl, s.chooseByte_spec op (maxOf_eq_ofNat _ _)⟩, ⟨_, rfl, s.chooseByte_spec op (minOf_eq_ofNat _ _)⟩⟩
  case toD =>
    exact ⟨⟨_, rfl, s.chooseD_spec op (maxOf_eq_ofNat _ _)⟩, ⟨_, rfl, s.chooseD_spec op (minOf_eq_ofNat _ _)⟩⟩
  case word =>
    exact ⟨⟨_, rfl, s.chooseWord_spec op (maxOf_eq_ofNat _ _)⟩, ⟨_, rfl, s.chooseWord_spec op (minOf_eq_ofNat _ _)⟩⟩

end Sys2Proof.Machine
end

section
/-!
SUPPORT. Multiply-accumulate and table interpolation (45_fuzzy_minmax_mac_table.md R490 to R494): the sum of 32 bits
and its flags, two words stored one after the other, and the value between two entries.
-/

namespace Sys2Proof.Machine

/-! ## A sum of 32 bits (R490) -/

/-- An exact sum in as many bits as its terms have. -/
theorem add_eq_ofInt {n : Nat} (p q : BitVec n) : p + q = BitVec.ofInt n (p.toInt + q.toInt) := by
  rw [BitVec.ofInt_add, BitVec.ofInt_toInt, BitVec.ofInt_toInt]

/-- The top bit of a double word as a bound. -/
theorem msb_dword (p : BitVec 32) : p.msb = decide (2147483648 ≤ p.toNat) := by simp [BitVec.msb_eq_decide]

/-- A signed double word by its top bit. -/
theorem toInt_dword (p : BitVec 32) :
    p.toInt = if 2147483648 ≤ p.toNat then (p.toNat : Int) - 4294967296 else p.toNat := by
  rw [BitVec.toInt_eq_toNat_cond]; split <;> split <;> omega

/-- The overflow formula is a sum that does not fit signed. -/
theorem overflowAdd_dword (p q : BitVec 32) : overflowAdd p q (p + q) = outOfRange 32 (p.toInt + q.toInt) := by
  have := p.isLt; have := q.isLt
  rw [Bool.eq_iff_iff]
  simp only [overflowAdd, outOfRange, msb_dword, BitVec.toNat_add, toInt_dword]
  simp only [Bool.or_eq_true, Bool.and_eq_true, Bool.not_eq_true', decide_eq_true_eq, decide_eq_false_iff_not]
  split <;> split <;> omega

theorem toNat_lowWord (v : BitVec 32) : (lowWord v).toNat = v.toNat % 65536 := by
  rw [lowWord, BitVec.extractLsb'_toNat, Nat.shiftRight_zero]

theorem lowWord_add (p q : BitVec 32) : lowWord (p + q) = addedValue (lowWord p) (lowWord q) false := by
  apply BitVec.eq_of_toNat_eq
  rw [toNat_addedValue_word, toNat_lowWord, toNat_lowWord, toNat_lowWord, BitVec.toNat_add, Bool.toNat_false]
  omega

/-- The low half of a double word is its signed number, taken modulo 65536. -/
theorem lowWord_toInt_emod (v : BitVec 32) : ((lowWord v).toNat : Int) = v.toInt % 65536 := by
  rw [toNat_lowWord, toInt_dword]
  split <;> omega

/-- The carry out of the low half of a sum. -/
theorem carryAdd_lowWord (p q : BitVec 32) : carryAdd (lowWord p) (lowWord q) (lowWord (p + q)) =
    decide (65536 ≤ (p.toNat : Int) % 65536 + q.toInt % 65536) := by
  rw [lowWord_add, carryAdd_word, decide_eq_decide, exactSum, ← lowWord_toInt_emod, toNat_lowWord p, Bool.toNat_false]
  omega

/-- The flags of EMACS in exact arithmetic. -/
theorem macFlags_exact (acc i : BitVec 32) (f : Ccr) : macFlags acc i (acc + i) f = { f with
    n := decide ((acc + i).toInt < 0), z := decide (acc + i = 0), v := outOfRange 32 (acc.toInt + i.toInt)
    c := decide (65536 ≤ (acc.toNat : Int) % 65536 + i.toInt % 65536) } := by
  rw [← overflowAdd_dword, ← carryAdd_lowWord, ← BitVec.msb_eq_toInt]
  simp only [macFlags, overflowAdd, carryAdd, msb_lowWord, beq_zero]

/-! ## Two words stored one after the other -/

/-- A word stored less than a block after an address leaves the byte there. -/
theorem State.peek_write16_before (s : State) {a b : Word} (hlo : 1 ≤ (b - a).toNat) (hhi : (b - a).toNat < 15)
    (t : State) (hc : t.cfg = s.cfg) (v : Word) : (s.write16 b v).peek (t.locate a) = s.peek (t.locate a) := by
  refine State.peek_write16_other s b v (fun h => ?_) fun h => ?_
  · have := State.locate_mod hc h
    bv_omega
  · have := State.locate_mod (hc.trans (s.write8_cfg b (hiByte v)).symm) h
    bv_omega

/-- Two words stored at adjacent places leave both there. -/
theorem State.storedWord_first (s : State) (a v w : Word) (f : Ccr) :
    s.storedWord (((s.write16 a v).write16 (a + 2#16) w).setCcr f) a v := by
  obtain ⟨hfirst, hsecond⟩ := s.storedWord_write16 a v (s.write16 a v).ccr
  refine ⟨?_, ?_⟩
  · rw [State.storedByte, State.peek_setCcr, State.peek_write16_before _ (by bv_omega) (by bv_omega) s (by simp)]
    exact hfirst
  · rw [State.storedByte, State.peek_setCcr, State.peek_write16_before _ (by bv_omega) (by bv_omega) _ (by simp)]
    exact hsecond

theorem State.bytesKept_write16 (s : State) (a v : Word) : s.bytesKept (s.write16 a v) (s.wordLocs a v) := by
  obtain ⟨-, -, -, -, -, hkept, -⟩ := s.regsOnly_refl.moved_write16 a v
  exact hkept

/-- A word stored moves an address only in the window of an expanded map, and only as a store to PPAGE. -/
theorem State.locate_write16_or (s : State) (a v b : Word) :
    (s.cfg.phys.expanded = true ∧ inWindow b = true ∧ .ppage ∈ s.wordLocs a v) ∨
      (s.write16 a v).locate b = s.locate b := by
  obtain ⟨hexp, hwin, hpage⟩ | hfirst := s.locate_store_or (s.locate a) (hiByte v) b
  · exact .inl ⟨hexp, hwin, List.mem_cons.mpr (.inl (List.mem_singleton.mp hpage))⟩
  obtain ⟨hexp, hwin, hpage⟩ | hsecond :=
    (s.write8 a (hiByte v)).locate_store_or ((s.write8 a (hiByte v)).locate (a + 1#16)) (loByte v) b
  · rw [State.write8_cfg] at hexp
    exact .inl ⟨hexp, hwin, List.mem_cons_of_mem _ hpage⟩
  · exact .inr (hsecond.trans hfirst)

/-- What two words stored leave alone, and what they mark. -/
theorem State.write16_write16_kept (s : State) (a v b w : Word) (f : Ccr) :
    let s1 := s.write16 a v
    let t := (s1.write16 b w).setCcr f
    s.bytesKept t (s.wordLocs a v ++ s1.wordLocs b w) ∧ s.marked t (s.wordLocs a v ++ s1.wordLocs b w) := by
  intro s1 t
  refine ⟨fun l hl => ?_, State.marked_trans (s.write16_cfg a v) (s.write16_pc a v) (s.locate_write16_or a v)
    (s.marked_write16 a v) (s1.marked_write16 b w)⟩
  obtain ⟨hfirst, hsecond⟩ := not_or.mp (mt List.mem_append.mpr hl)
  calc t.peek l = (s1.write16 b w).peek l := State.peek_setCcr _ f l
    _ = s1.peek l := s1.bytesKept_write16 b w l hsecond
    _ = s.peek l := s.bytesKept_write16 a v l hfirst

/-- EMACS: its sum stored as two words, with the flags of exact arithmetic. -/
theorem State.multiplyAccumulate_eq (s : State) (ea : Word) :
    let old : BitVec 32 := s.read16 ea ++ s.read16 (ea + 2#16)
    let product := (s.read16 s.x).toInt * (s.read16 s.y).toInt
    let sum := BitVec.ofInt 32 (old.toInt + product)
    s.multiplyAccumulate ea =
      ((s.write16 ea (highWord sum)).write16 (ea + 2#16) (lowWord sum)).setCcr { s.ccr with
        n := decide (sum.toInt < 0), z := decide (sum = 0), v := outOfRange 32 (old.toInt + product)
        c := decide (65536 ≤ (old.toNat : Int) % 65536 + product % 65536) } := by
  intro old product sum
  have hproduct := toInt_signExtend_mul (s.read16 s.x) (s.read16 s.y)
  have hsum := add_eq_ofInt old ((s.read16 s.x).signExtend 32 * (s.read16 s.y).signExtend 32)
  have hflags := macFlags_exact old ((s.read16 s.x).signExtend 32 * (s.read16 s.y).signExtend 32) s.ccr
  rw [hsum, hproduct] at hflags
  rw [hproduct] at hsum
  rw [State.multiplyAccumulate]
  simp only [State.flags, State.write16_ccr, old, hsum, hflags]
  rfl

/-- Settles O43: the sum and its flags by `State.multiplyAccumulate_eq`, and two adjacent words stored. -/
theorem multiplyAccumulate : Obligations.MultiplyAccumulate := by
  intro s ea product old sum hi lo s1
  obtain ⟨hkept, hmarked⟩ := s.write16_write16_kept ea hi (ea + 2#16) lo _
  exact ⟨_, next_congr (s.multiplyAccumulate_eq ea), by simp, s.storedWord_first ea hi lo _,
    s1.storedWord_write16 (ea + 2#16) lo _, rfl, by simp, by simp, hkept, hmarked⟩

/-! ## Table interpolation (R492 to R494) -/

/-- `frac` 256ths of a difference lie between none and all of it. -/
theorem part_between {frac : Nat} (h : frac < 256) (d : Int) :
    (0 ≤ frac * d ∧ frac * d ≤ 256 * d) ∨ (256 * d ≤ frac * d ∧ frac * d ≤ 0) := by
  have hlower : (0 : Int) ≤ frac := Int.natCast_nonneg frac
  have hupper : (frac : Int) ≤ 256 := by omega
  rcases Int.le_total 0 d with hd | hd
  · exact .inl ⟨Int.mul_nonneg hlower hd, Int.mul_le_mul_of_nonneg_right hupper hd⟩
  · exact .inr ⟨Int.mul_le_mul_of_nonpos_right hupper hd, Int.mul_nonpos_of_nonneg_of_nonpos hlower hd⟩

/-- The value between the entries `y1` and `y2`, times 256, is `256 * y1 + p`, where `p` is `frac` times their
difference. Its whole part `r` lies between the entries. -/
theorem interpolated_between {frac y1 y2 r : Nat} (h : frac < 256) {p : Int} (hp : p = frac * ((y2 : Int) - y1))
    (hr : (r : Int) = y1 + p / 256) :
    256 * (r : Int) ≤ 256 * y1 + p ∧ 256 * y1 + p < 256 * r + 256 ∧
      (decide (128 ≤ p % 256) = true ↔ 256 * (r : Int) + 128 ≤ 256 * y1 + p) ∧ min y1 y2 ≤ r ∧ r ≤ max y1 y2 := by
  have between := part_between h ((y2 : Int) - y1)
  rw [← hp] at between
  rw [decide_eq_true_eq]
  omega

/-- The value of an interpolation as a number: no bit of it is lost. -/
theorem aluTable_toNat {n : Nat} (f : Ccr) (frac : Byte) (y1 y2 : BitVec n) :
    ((aluTable f frac y1 y2).1.toNat : Int) = y1.toNat + frac.toNat * ((y2.toNat : Int) - y1.toNat) / 256 := by
  have between := part_between frac.isLt ((y2.toNat : Int) - y1.toNat)
  have := y1.isLt
  have := y2.isLt
  rw [aluTable, BitVec.toNat_ofInt, Int.emod_eq_of_lt (by omega) (by omega)]
  exact Int.toNat_of_nonneg (by omega)

/-- TBL and ETBL: the value between the entries, and C by what is left of it. -/
theorem aluTable_between {n : Nat} (f : Ccr) (frac : Byte) (y1 y2 : BitVec n) :
    let value : Int := 256 * y1.toNat + frac.toNat * ((y2.toNat : Int) - y1.toNat)
    let r := (aluTable f frac y1 y2).1.toNat
    256 * (r : Int) ≤ value ∧ value < 256 * r + 256 ∧
      ((aluTable f frac y1 y2).2.c = true ↔ 256 * (r : Int) + 128 ≤ value) ∧
      min y1.toNat y2.toNat ≤ r ∧ r ≤ max y1.toNat y2.toNat :=
  interpolated_between frac.isLt rfl (aluTable_toNat f frac y1 y2)

theorem State.tableByte_eq (s : State) (op : Indexed) :
    let out := aluTable s.ccr s.b (s.read8 (s.indexed op).1) (s.read8 ((s.indexed op).1 + 1#16))
    s.tableByte op = ((s.indexed op).2.setA out.1).setCcr out.2 := by
  simp only [State.tableByte, State.indexed_ccr, State.indexed_b, State.read8_of_bus (s.indexed_bus op)]

theorem State.tableWord_eq (s : State) (op : Indexed) :
    let out := aluTable s.ccr s.b (s.read16 (s.indexed op).1) (s.read16 ((s.indexed op).1 + 2#16))
    s.tableWord op = ((s.indexed op).2.setD out.1).setCcr out.2 := by
  simp only [State.tableWord, State.indexed_ccr, State.indexed_b, State.read16_of_bus (s.indexed_bus op)]

/-- Settles O44: both instructions end in the value of `aluTable_between`, in A or in D. -/
theorem tableInterpolation : Obligations.TableInterpolation := by
  refine fun s op => ⟨⟨_, next_congr (s.tableByte_eq op), ?byte⟩, ⟨_, next_congr (s.tableWord_eq op), ?word⟩⟩
  case byte =>
    exact ⟨aluTable_between _ _ _ _, rfl, rfl, (State.regsOnly_setAcc _ .a _).frame (s.indexed_modeOnly op) _⟩
  case word =>
    have hd (s1 : State) (v : Word) (f : Ccr) : ((s1.setD v).setCcr f).d = v := s1.setD_d v
    simp only [hd]
    exact ⟨aluTable_between _ _ _ _, rfl, rfl, (State.regsOnly_setD _ _).frame (s.indexed_modeOnly op) _⟩

end Sys2Proof.Machine
end

section
/-!
SUPPORT. The fuzzy instructions MEM, REV and REVW (45_fuzzy_minmax_mac_table.md R470 to R475): the grade of membership,
and how each kind of element of a rule list ends.
-/

namespace Sys2Proof.Machine

theorem State.fuzzy_of_hasFuzzy {s : State} (h : s.cfg.version.hasFuzzy = true) (f : State → State) :
    s.fuzzy f = f s := by
  rw [State.fuzzy, h]
  rfl

/-! ## MEM (R471, R472) -/

/-- The grade by its cases: zero outside the points, the first slope that does not run past the top, else the top. -/
theorem memGrade_eq (a p1 p2 s1 s2 : Byte) : memGrade a p1 p2 s1 s2 = BitVec.ofNat 8 (
    if a.toNat < p1.toNat ∨ p2.toNat < a.toNat then 0
    else if s1.toNat ≠ 0 ∧ s1.toNat * (a.toNat - p1.toNat) ≤ 255 then s1.toNat * (a.toNat - p1.toNat)
    else if s2.toNat ≠ 0 ∧ s2.toNat * (p2.toNat - a.toNat) ≤ 255 then s2.toNat * (p2.toNat - a.toNat) else 255) := by
  have runsPast (q : Byte) (k : Nat) : ((q == 0 || decide (255 < k)) = true) = ¬(q.toNat ≠ 0 ∧ k ≤ 255) := by
    rw [beq_zero_toNat, Bool.or_eq_true, decide_eq_true_eq, decide_eq_true_eq, not_and_or, not_not, not_le]
  rw [memGrade]
  by_cases hout : a.toNat < p1.toNat ∨ p2.toNat < a.toNat
  · have outside : (decide (a.toNat < p1.toNat) || decide (p2.toNat < a.toNat)) = true := by simpa using hout
    simp only [outside, if_true, Bool.not_true, Bool.and_false, Bool.false_eq_true, if_false, if_pos hout]
  · have outside : (decide (a.toNat < p1.toNat) || decide (p2.toNat < a.toNat)) = false := by simpa using hout
    simp only [outside, Bool.false_eq_true, if_false, Bool.not_false, Bool.and_true, if_neg hout, runsPast, ite_not]

/-- A byte stored, then registers and flags changed. -/
theorem State.stored_byte_then {s t : State} {a : Word} {v : Byte} (hb : t.bus = (s.write8 a v).bus)
    (hq : t.marks = (s.write8 a v).marks) :
    s.storedByte t a v ∧ s.bytesKept t [s.locate a] ∧ s.marked t [s.locate a] := by
  refine ⟨(State.peek_of_bus hb _).trans (s.peek_write8_same a v), fun l hl => ?_,
    State.marked_congr (s.marked_write8 a v) rfl rfl rfl hq⟩
  rw [State.peek_of_bus hb, State.peek_write8_other _ _ _ (by simpa using hl)]

theorem State.membership_eq (s : State) : s.membership = (((s.write8 s.y (memGrade s.a (s.read8 s.x) (s.read8 (s.x + 1))
    (s.read8 (s.x + 2)) (s.read8 (s.x + 3)))).setY (s.y + 1)).setX (s.x + 4)).memFlags := by
  have third : s.x + 2#16 + 1#16 = s.x + 3 := by bv_omega
  simp only [State.membership, State.read16, hiByte_join, loByte_join, third]
  rfl

/-- Settles O38: the grade is `memGrade_eq`'s; a version without fuzzy logic traps by `exec_fuzzy_eq_trap`. -/
theorem membership : Obligations.Membership := by
  refine ⟨fun s hfuzzy => ?mem, fun s hfuzzy i hi tn => ?trap⟩
  case mem =>
    intro a p1 p2 s1 s2 grade
    have ends := (State.fuzzy_of_hasFuzzy hfuzzy _).trans s.membership_eq
    rw [memGrade_eq] at ends
    obtain ⟨hstored, hkept, hmarked⟩ := State.stored_byte_then (s := s) (a := s.y) (v := BitVec.ofNat 8 grade)
      (t := (((s.write8 s.y (BitVec.ofNat 8 grade)).setY (s.y + 1)).setX (s.x + 4)).memFlags)
      (by simp [State.memFlags, State.flags]) (by simp [State.memFlags, State.flags, State.marks])
    refine ⟨_, next_congr ends, hstored, ?_, ?_, ?_, ?_, hkept, hmarked⟩ <;>
      simp [State.memFlags, State.flags, State.regs]
  case trap =>
    simp only [List.mem_cons, List.not_mem_nil, or_false] at hi
    exact exec_fuzzy_eq_trap hfuzzy (by simp only [List.mem_cons]; tauto) tn

/-! ## One element of a rule list (R473 to R475) -/

/-- What an element of a rule list leaves, by its marker: `0xFFFF` ends the list, `0xFFFE` separates, and `inputs` says
that the element is a pointer, to the byte at `target`. -/
def State.ruled (s t : State) (target marker : Word) (inputs : Bool) : Prop :=
  let f := s.read8 target
  t.special = s.special ∧ (t.ccr.s, t.ccr.x, t.ccr.i) = (s.ccr.s, s.ccr.x, s.ccr.i) ∧
  t.ccr.v = (s.ccr.v != decide (marker = 0xFFFE#16)) ∧ t.pc = (if marker = 0xFFFF#16 then s.pc else s.pc - 2) ∧
  (t.b, t.sp) = (s.b, s.sp) ∧
  (inputs = true → s.ccr.v = false → t.a.toNat = min s.a.toNat f.toNat) ∧
  (inputs = true → s.ccr.v = true → t.a = s.a) ∧
  if inputs = true ∧ s.ccr.v = true ∧ f.toNat < s.a.toNat then
    s.storedByte t target s.a ∧ s.bytesKept t [s.locate target] ∧ s.marked t [s.locate target]
  else s.bytesKept t [] ∧ s.marked t []

/-- From `s` to `t` no byte and no mark changes, and of the registers at most A, X, Y, the PC and the flags. -/
structure State.Listed (s t : State) : Prop where
  special : t.special = s.special
  bus : t.bus = s.bus
  marks : t.marks = s.marks
  b : t.b = s.b
  sp : t.sp = s.sp

@[simp] theorem State.consequent_special (s : State) (a : Word) : (s.consequent a).special = s.special := by
  rw [State.consequent]; split <;> simp
@[simp] theorem State.consequent_a (s : State) (a : Word) : (s.consequent a).a = s.a := by
  rw [State.consequent]; split <;> simp
@[simp] theorem State.consequent_b (s : State) (a : Word) : (s.consequent a).b = s.b := by
  rw [State.consequent]; split <;> simp
@[simp] theorem State.consequent_x (s : State) (a : Word) : (s.consequent a).x = s.x := by
  rw [State.consequent]; split <;> simp
@[simp] theorem State.consequent_y (s : State) (a : Word) : (s.consequent a).y = s.y := by
  rw [State.consequent]; split <;> simp
@[simp] theorem State.consequent_sp (s : State) (a : Word) : (s.consequent a).sp = s.sp := by
  rw [State.consequent]; split <;> simp
@[simp] theorem State.consequent_pc (s : State) (a : Word) : (s.consequent a).pc = s.pc := by
  rw [State.consequent]; split <;> simp
@[simp] theorem State.consequent_ccr (s : State) (a : Word) : (s.consequent a).ccr = s.ccr := by
  rw [State.consequent]; split <;> simp

theorem State.listed_refl (s : State) : s.Listed s := ⟨rfl, rfl, rfl, rfl, rfl⟩

section
variable {s t : State} (h : s.Listed t)
include h

theorem State.Listed.setA (v : Byte) : s.Listed (t.setA v) := ⟨h.special, h.bus, h.marks, h.b, h.sp⟩

theorem State.Listed.setX (v : Word) : s.Listed (t.setX v) := ⟨h.special, h.bus, h.marks, h.b, h.sp⟩

theorem State.Listed.setY (v : Word) : s.Listed (t.setY v) := ⟨h.special, h.bus, h.marks, h.b, h.sp⟩

theorem State.Listed.again : s.Listed t.again := ⟨h.special, h.bus, h.marks, h.b, h.sp⟩

theorem State.Listed.flags (f : Ccr → Ccr) : s.Listed (t.flags f) := ⟨h.special, h.bus, h.marks, h.b, h.sp⟩

end

theorem minByte_toNat (p q : Byte) : (minByte p q).toNat = min p.toNat q.toNat := by
  rw [minByte]
  split
  · next h => rw [Nat.min_eq_left h]
  · next h => rw [Nat.min_eq_right (Nat.le_of_not_le h)]

/-- The end marker or a separator. -/
theorem State.Listed.ruled_marker {s t : State} (h : s.Listed t) {marker : Word} (target : Word)
    (hm : t.ccr.masks = s.ccr.masks) (hv : t.ccr.v = (s.ccr.v != decide (marker = 0xFFFE#16)))
    (hpc : t.pc = if marker = 0xFFFF#16 then s.pc else s.pc - 2) : s.ruled t target marker false := by
  refine ⟨h.special, hm, hv, hpc, by rw [h.b, h.sp], nofun, nofun, ?_⟩
  rw [if_neg (by simp)]
  exact ⟨State.bytesKept_of_bus h.bus [], State.marked_nil h.marks⟩

theorem State.Listed.ruled_end {s t : State} (h : s.Listed t) (target : Word) (hm : t.ccr.masks = s.ccr.masks)
    (hv : t.ccr.v = s.ccr.v) (hpc : t.pc = s.pc) : s.ruled t target 0xFFFF#16 false :=
  h.ruled_marker target hm (by simp [hv]) hpc

theorem State.Listed.ruled_separator {s t : State} (h : s.Listed t) (target : Word) (hm : t.ccr.masks = s.ccr.masks)
    (hv : t.ccr.v = !s.ccr.v) (hpc : t.pc = s.pc - 2) : s.ruled t target 0xFFFE#16 false :=
  h.ruled_marker target hm (by simp [hv]) hpc

/-- An antecedent: a pointer while V is clear. -/
theorem State.Listed.ruled_antecedent {s t : State} (h : s.Listed t) {marker target : Word}
    (hend : marker ≠ 0xFFFF#16) (hsep : marker ≠ 0xFFFE#16) (hv : s.ccr.v = false)
    (hm : t.ccr.masks = s.ccr.masks) (htv : t.ccr.v = s.ccr.v) (hpc : t.pc = s.pc - 2)
    (ha : t.a = minByte s.a (s.read8 target)) : s.ruled t target marker true := by
  refine ⟨h.special, hm, by simp [htv, hsep], by rw [hpc, if_neg hend], by rw [h.b, h.sp],
    fun _ _ => by rw [ha, minByte_toNat], by simp [hv], ?_⟩
  rw [if_neg (by simp [hv])]
  exact ⟨State.bytesKept_of_bus h.bus [], State.marked_nil h.marks⟩

/-- A consequent: a pointer while V is set; `x` is the place of the next element. -/
theorem State.Listed.ruled_consequent {s t : State} {x target : Word} (h : ((s.setX x).consequent target).Listed t)
    {marker : Word} (hend : marker ≠ 0xFFFF#16) (hsep : marker ≠ 0xFFFE#16) (hv : s.ccr.v = true)
    (hm : t.ccr.masks = s.ccr.masks) (htv : t.ccr.v = s.ccr.v) (hpc : t.pc = s.pc - 2)
    (ha : t.a = s.a) : s.ruled t target marker true := by
  obtain ⟨hspecial, hbus, hmarks, hb, hsp⟩ := h
  rw [State.consequent_special] at hspecial
  rw [State.consequent_b] at hb
  rw [State.consequent_sp] at hsp
  refine ⟨hspecial, hm, by simp [htv, hsep], by rw [hpc, if_neg hend], Prod.ext hb hsp, by simp [hv], fun _ _ => ha, ?_⟩
  have htakes : (true = true ∧ s.ccr.v = true ∧ (s.read8 target).toNat < s.a.toNat) ↔
      (s.read8 target).toNat < s.a.toNat := by simp [hv]
  rw [if_congr htakes rfl rfl]
  rw [State.consequent] at hbus hmarks
  by_cases hless : (s.read8 target).toNat < s.a.toNat
  · rw [if_pos hless]
    exact State.stored_byte_then (s := s.setX x) (hbus.trans (congrArg State.bus (if_pos hless)))
      (hmarks.trans (congrArg State.marks (if_pos hless)))
  · rw [if_neg hless]
    exact ⟨State.bytesKept_of_bus (s := s.setX x) (hbus.trans (congrArg State.bus (if_neg hless))) [],
      State.marked_nil (s := s.setX x) (hmarks.trans (congrArg State.marks (if_neg hless)))⟩

/-! ## REV (R474) -/

/-- What stands in the place of a marker of 16 bits in REV's list of bytes. -/
def revMarker (e : Byte) : Word := if e = 0xFF#8 then 0xFFFF#16 else if e = 0xFE#8 then 0xFFFE#16 else 0#16

/-- REV on an end marker. -/
theorem State.revElement_end {s : State} (h : s.read8 s.x = 0xFF#8) :
    s.revElement = (s.setX (s.x + 1#16)).revFlags := by
  rw [State.revElement, if_pos h]

/-- REV on a separator. -/
theorem State.revElement_separator {s : State} (h : s.read8 s.x = 0xFE#8) : s.revElement =
    (((s.setX (s.x + 1#16)).setA (if s.ccr.v then 0xFF#8 else s.a)).flags
      fun f => { f with v := !f.v }).again.revFlags := by
  rw [State.revElement, if_neg (by rw [h]; decide), if_pos h]
  cases hv : s.ccr.v with
  | false => simp only [State.setX_ccr, hv, Bool.false_eq_true, if_false]; rfl
  | true => simp only [State.setX_ccr, hv, if_true]

/-- REV on an antecedent. -/
theorem State.revElement_antecedent {s : State} (hend : s.read8 s.x ≠ 0xFF#8) (hsep : s.read8 s.x ≠ 0xFE#8)
    (hv : s.ccr.v = false) : s.revElement =
      ((s.setX (s.x + 1#16)).antecedent (s.y + zextByte (s.read8 s.x))).again.revFlags := by
  rw [State.revElement, if_neg hend, if_neg hsep]
  exact if_neg (by simp [hv])

/-- REV on a consequent. -/
theorem State.revElement_consequent {s : State} (hend : s.read8 s.x ≠ 0xFF#8) (hsep : s.read8 s.x ≠ 0xFE#8)
    (hv : s.ccr.v = true) : s.revElement =
      ((s.setX (s.x + 1#16)).consequent (s.y + zextByte (s.read8 s.x))).again.revFlags := by
  rw [State.revElement, if_neg hend, if_neg hsep]
  exact if_pos hv

theorem State.revElement_spec (s : State) :
    let e := s.read8 s.x
    let t := s.revElement
    s.ruled t (s.y + zextByte e) (revMarker e) (decide (revMarker e = 0#16)) ∧ (t.x, t.y) = (s.x + 1, s.y) ∧
      (e = 0xFF#8 → t.a = s.a) ∧ (e = 0xFE#8 → t.a = if s.ccr.v then 0xFF#8 else s.a) := by
  intro e t
  have next := s.listed_refl.setX (s.x + 1#16)
  by_cases hend : e = 0xFF#8
  · have hmarker : revMarker e = 0xFFFF#16 := by rw [revMarker, if_pos hend]
    rw [hmarker, show t = _ from State.revElement_end hend]
    exact ⟨(next.flags _).ruled_end _ rfl rfl rfl, rfl, fun _ => rfl, fun h => absurd (hend.symm.trans h) (by decide)⟩
  by_cases hsep : e = 0xFE#8
  · have hmarker : revMarker e = 0xFFFE#16 := by rw [revMarker, if_neg hend, if_pos hsep]
    rw [hmarker, show t = _ from State.revElement_separator hsep]
    exact ⟨(((next.setA _).flags _).again.flags _).ruled_separator _ rfl rfl rfl, rfl, fun h => absurd h hend,
      fun _ => rfl⟩
  have hmarker : revMarker e = 0#16 := by rw [revMarker, if_neg hend, if_neg hsep]
  rw [hmarker, decide_eq_true rfl]
  cases hv : s.ccr.v with
  | false =>
    rw [show t = _ from State.revElement_antecedent hend hsep hv]
    exact ⟨((next.setA _).again.flags _).ruled_antecedent (by decide) (by decide) hv rfl rfl rfl rfl, rfl,
      fun h => absurd h hend, fun h => absurd h hsep⟩
  | true =>
    have written := ((s.setX (s.x + 1#16)).consequent (s.y + zextByte e)).listed_refl
    rw [show t = _ from State.revElement_consequent hend hsep hv]
    refine ⟨(written.again.flags _).ruled_consequent (by decide) (by decide) hv ?_ ?_ ?_ ?_, ?_,
      fun h => absurd h hend, fun h => absurd h hsep⟩ <;>
      simp [State.again, State.flags, State.revFlags, Ccr.masks]

/-! ## REVW (R475) -/

/-- REVW's separator weighs A: consequents follow and C asks for weights. -/
def State.weighs (s : State) (e : Word) : Bool := decide (e = 0xFFFE#16) && !s.ccr.v && s.ccr.c

/-- A separator of REVW changes A, and Y where it weighs A. -/
theorem State.revwSeparator_eq (s : State) : s.revwSeparator =
    (s.setA (if s.weighs 0xFFFE#16 then weighted s.a (s.read8 s.y) else if s.ccr.v then 0xFF#8 else s.a)).setY
      (if s.weighs 0xFFFE#16 then s.y + 1#16 else s.y) := by
  rw [State.revwSeparator, State.weighs, decide_eq_true rfl, Bool.true_and]
  cases hv : s.ccr.v <;> cases hc : s.ccr.c <;> simp <;> rfl

theorem weighted_toNat (a w : Byte) : (weighted a w).toNat = a.toNat * (w.toNat + 1) / 256 := by
  have fits : a.toNat * (w.toNat + 1) < 256 * 256 := Nat.mul_lt_mul_of_lt_of_le a.isLt w.isLt (by decide)
  rw [weighted, BitVec.toNat_ofNat]
  omega

/-- REVW on an end marker. -/
theorem State.revwElement_end {s : State} (h : s.read16 s.x = 0xFFFF#16) :
    s.revwElement = (s.setX (s.x + 2#16)).revwFlags true := by
  rw [State.revwElement, if_pos h]

/-- REVW on a separator. -/
theorem State.revwElement_separator {s : State} (h : s.read16 s.x = 0xFFFE#16) : s.revwElement =
    ((s.setX (s.x + 2#16)).revwSeparator.flags fun f => { f with v := !f.v }).again.revwFlags false := by
  rw [State.revwElement, if_neg (by rw [h]; decide), if_pos h]

/-- REVW on an antecedent. -/
theorem State.revwElement_antecedent {s : State} (hend : s.read16 s.x ≠ 0xFFFF#16) (hsep : s.read16 s.x ≠ 0xFFFE#16)
    (hv : s.ccr.v = false) :
    s.revwElement = ((s.setX (s.x + 2#16)).antecedent (s.read16 s.x)).again.revwFlags false := by
  rw [State.revwElement, if_neg hend, if_neg hsep]
  exact if_neg (by simp [hv])

/-- REVW on a consequent. -/
theorem State.revwElement_consequent {s : State} (hend : s.read16 s.x ≠ 0xFFFF#16) (hsep : s.read16 s.x ≠ 0xFFFE#16)
    (hv : s.ccr.v = true) :
    s.revwElement = ((s.setX (s.x + 2#16)).consequent (s.read16 s.x)).again.revwFlags false := by
  rw [State.revwElement, if_neg hend, if_neg hsep]
  exact if_pos hv

theorem State.revwElement_spec (s : State) :
    let e := s.read16 s.x
    let t := s.revwElement
    s.ruled t e e (decide (e ≠ 0xFFFE#16 ∧ e ≠ 0xFFFF#16)) ∧
      (t.x, t.y) = (s.x + 2, if s.weighs e then s.y + 1 else s.y) ∧ (e ≠ 0xFFFF#16 → t.ccr.c = s.ccr.c) ∧
      (e = 0xFFFF#16 → t.a = s.a) ∧
      (e = 0xFFFE#16 → if s.weighs e then t.a.toNat = s.a.toNat * ((s.read8 s.y).toNat + 1) / 256
        else t.a = if s.ccr.v then 0xFF#8 else s.a) := by
  intro e t
  have next := s.listed_refl.setX (s.x + 2#16)
  by_cases hend : e = 0xFFFF#16
  · rw [show t = _ from State.revwElement_end hend, hend]
    exact ⟨(next.flags _).ruled_end _ rfl rfl rfl, rfl, fun h => absurd rfl h, fun _ => rfl,
      fun h => absurd h (by decide)⟩
  by_cases hsep : e = 0xFFFE#16
  · rw [show t = _ from State.revwElement_separator hsep, hsep, State.revwSeparator_eq]
    refine ⟨((((next.setA _).setY _).flags _).again.flags _).ruled_separator _ rfl rfl rfl, rfl, fun _ => rfl,
      fun h => absurd h (by decide), fun _ => ?_⟩
    split
    · next hw => exact (congrArg BitVec.toNat (if_pos hw)).trans (weighted_toNat s.a _)
    · next hw => exact if_neg hw
  rw [decide_eq_true ⟨hsep, hend⟩]
  have noWeights : s.weighs e = false := by rw [State.weighs, decide_eq_false hsep]; rfl
  rw [noWeights]
  cases hv : s.ccr.v with
  | false =>
    rw [show t = _ from State.revwElement_antecedent hend hsep hv]
    exact ⟨((next.setA _).again.flags _).ruled_antecedent hend hsep hv rfl rfl rfl rfl, rfl, fun _ => rfl,
      fun h => absurd h hend, fun h => absurd h hsep⟩
  | true =>
    have written := ((s.setX (s.x + 2#16)).consequent e).listed_refl
    rw [show t = _ from State.revwElement_consequent hend hsep hv]
    refine ⟨(written.again.flags _).ruled_consequent hend hsep hv ?_ ?_ ?_ ?_, ?_, ?_,
      fun h => absurd h hend, fun h => absurd h hsep⟩ <;>
      simp [State.again, State.flags, State.revwFlags, Ccr.masks]

/-- Settles O39: one element as `State.revElement_spec` and `State.revwElement_spec` say. -/
theorem ruleEvaluation : Obligations.RuleEvaluation := fun s hfuzzy =>
  ⟨⟨_, next_congr (State.fuzzy_of_hasFuzzy hfuzzy _), s.revElement_spec⟩,
    ⟨_, next_congr (State.fuzzy_of_hasFuzzy hfuzzy _), s.revwElement_spec⟩⟩

end Sys2Proof.Machine
end

section
/-!
SUPPORT. WAV and its resumption (45_fuzzy_minmax_mac_table.md R476 to R478): what one pair of the sums leaves, and, by
induction on the pairs, what the whole of a WAV does.
-/

namespace Sys2Proof.Machine

/-! ## One pair -/

/-- What one pair leaves that is added to the sums `w`, with B counted down to `count` and SP at `sp`: the sums in the
registers when the count is over, else kept for the `3C` byte. -/
def State.added (s t : State) (count : Byte) (sp : Word) (w : WavSums) : Prop :=
  let sop := w.sop.toNat + (s.read8 s.x).toNat * (s.read8 s.y).toNat
  let sow := w.sow.toNat + (s.read8 s.y).toNat
  t.sp = sp ∧ t.pc = (if count = 0 then s.pc else s.pc - 1) ∧ t.special = (s.setWav t.wav).special ∧
  (t.ccr.s, t.ccr.x, t.ccr.i, t.ccr.z) = (s.ccr.s, s.ccr.x, s.ccr.i, decide (count = 0) || s.ccr.z) ∧
  s.bytesKept t [] ∧ s.marked t [] ∧
  if count = 0 then t.wav = none ∧ (t.y ++ t.d).toNat = sop % 2 ^ 32 ∧ t.x.toNat = sow % 2 ^ 16
  else (t.a, t.b, t.x, t.y) = (s.a, count, s.x + 1, s.y + 1) ∧
    t.wav = some { sop := BitVec.ofNat 32 sop, sow := BitVec.ofNat 16 sow }

/-- The sums with the pair at X and Y added, as numbers. -/
def State.sumsWith (s : State) (w : WavSums) : WavSums :=
  { sop := BitVec.ofNat 32 (w.sop.toNat + (s.read8 s.x).toNat * (s.read8 s.y).toNat)
    sow := BitVec.ofNat 16 (w.sow.toNat + (s.read8 s.y).toNat) }

/-- Both pointers at the next pair. -/
def State.nextPair (s : State) : State := (s.setX (s.x + 1#16)).setY (s.y + 1#16)

theorem State.wavPair_eq (s : State) (w : WavSums) :
    s.wavPair w = (s.sumsWith w, s.nextPair) := by
  have product : (s.read8 s.x).zeroExtend 32 * (s.read8 s.y).zeroExtend 32 =
      BitVec.ofNat 32 ((s.read8 s.x).toNat * (s.read8 s.y).toNat) := by
    rw [← toNat_zeroExtend_mul (m := 32) (by decide), BitVec.ofNat_toNat, BitVec.setWidth_eq]
  have sop (p : BitVec 32) (k : Nat) : p + BitVec.ofNat 32 k = BitVec.ofNat 32 (p.toNat + k) := by
    rw [BitVec.ofNat_add, BitVec.ofNat_toNat, BitVec.setWidth_eq]
  rw [State.wavPair, product, sop, add_zextByte, State.sumsWith, State.nextPair]

/-- The last pair of a WAV. -/
theorem State.wavStep_last {s : State} (h : s.b = 0#8) (w : WavSums) :
    s.wavStep w = s.nextPair.wavFinish (s.sumsWith w) := by
  rw [State.wavStep, State.wavPair_eq]
  exact if_pos h

/-- Any other pair. -/
theorem State.wavStep_next {s : State} (h : s.b ≠ 0#8) (w : WavSums) : s.wavStep w =
    ((s.nextPair.setWav (some (s.sumsWith w))).setPc (s.pc - 1#16)).wavFlags s.ccr.z := by
  rw [State.wavStep, State.wavPair_eq]
  exact if_neg h

/-- The sums in their registers. -/
theorem State.wavFinish_sums (s : State) (w : WavSums) :
    (s.wavFinish w).y ++ (s.wavFinish w).d = w.sop ∧ (s.wavFinish w).x = w.sow := by
  refine ⟨?_, by simp [State.wavFinish, State.wavFlags, State.flags]⟩
  calc (s.wavFinish w).y ++ (s.wavFinish w).d = highWord w.sop ++ lowWord w.sop :=
        congrArg (highWord w.sop ++ ·) ((s.setY (highWord w.sop)).setD_d (lowWord w.sop))
    _ = w.sop := highWord_append_lowWord w.sop

/-- One pair, from the count that B holds. -/
theorem State.wavStep_added (s : State) (w : WavSums) : s.added (s.wavStep w) s.b s.sp w := by
  by_cases hb : s.b = 0
  · obtain ⟨hyd, hx⟩ := s.nextPair.wavFinish_sums (s.sumsWith w)
    rw [State.wavStep_last hb]
    refine ⟨?_, ?_, ?_, ?_, State.bytesKept_of_bus ?_ [], State.marked_nil ?_, ?_⟩
    case refine_7 =>
      rw [if_pos hb, hyd, hx, State.sumsWith, BitVec.toNat_ofNat, BitVec.toNat_ofNat]
      exact ⟨rfl, rfl, rfl⟩
    all_goals simp [State.nextPair, State.wavFinish, State.wavFlags, State.flags, State.marks, State.special, hb]
  · have hb8 : s.b ≠ 0#8 := hb
    rw [State.wavStep_next hb]
    refine ⟨?_, ?_, ?_, ?_, State.bytesKept_of_bus ?_ [], State.marked_nil ?_, ?_⟩
    case refine_7 =>
      rw [if_neg hb]
      exact ⟨rfl, rfl⟩
    all_goals simp [State.nextPair, State.wavFlags, State.flags, State.marks, State.special, hb8]

/-- With sums kept, `3C` counts and adds. -/
theorem State.wavResume_kept {s : State} {w : WavSums} (h : s.wav = some w) : s.wavResume = s.wavCount.wavStep w := by
  rw [State.wavResume, h]

/-- With none kept, `3C` pulls them. -/
theorem State.wavResume_pulled {s : State} (h : s.wav = none) : s.wavResume = (s.setSp (s.sp + 6)).wavStep
    { sop := s.read16 s.sp ++ s.read16 (s.sp + 2), sow := s.read16 (s.sp + 4) } := by
  have four : s.sp + 2#16 + 2#16 = s.sp + 4 := by bv_omega
  have six : s.sp + 2#16 + 2#16 + 2#16 = s.sp + 6 := by bv_omega
  rw [← four, ← six, State.wavResume, h]
  rfl

/-- Settles O40: each begins or goes on with sums of its own, and adds one pair by `State.wavStep_added`. -/
theorem weightedAveragePair : Obligations.WeightedAveragePair := by
  intro s hfuzzy added
  refine ⟨⟨_, next_congr (State.fuzzy_of_hasFuzzy hfuzzy _), s.wavCount.wavStep_added _⟩, fun w hw => ?kept,
    fun hnone => ?pulled⟩
  case kept =>
    exact ⟨_, next_congr ((State.fuzzy_of_hasFuzzy hfuzzy _).trans (State.wavResume_kept hw)),
      s.wavCount.wavStep_added w⟩
  case pulled =>
    exact ⟨_, next_congr ((State.fuzzy_of_hasFuzzy hfuzzy _).trans (State.wavResume_pulled hnone)),
      (s.setSp (s.sp + 6)).wavStep_added _⟩

/-! ## The whole of a WAV -/

/-- States with equal parameters and equal bytes read every address alike. -/
theorem State.read8_of_bytesKept {s t : State} (hc : t.cfg = s.cfg) (h : s.bytesKept t []) (a : Word) :
    t.read8 a = s.read8 a := by
  have hpage : t.ppage = s.ppage := h .ppage List.not_mem_nil
  have hkey : t.localKey a = s.localKey a := by rw [State.localKey, State.localKey, hc, hpage]
  rw [State.read8, State.locate, hkey, State.locAt_of_cfg hc]
  exact h _ List.not_mem_nil

/-- The sum of the first values of `f`. -/
def sumTo (f : Nat → Nat) (k : Nat) : Nat := ((List.range k).map f).sum

theorem sumTo_succ (f : Nat → Nat) (k : Nat) : sumTo f (k + 1) = sumTo f k + f k := List.sum_range_succ f k

theorem sumTo_le {f : Nat → Nat} {m : Nat} (h : ∀ i, f i ≤ m) (k : Nat) : sumTo f k ≤ k * m := by
  induction k with
  | zero => exact Nat.le_of_eq (Nat.zero_mul m).symm
  | succ k ih =>
    rw [sumTo_succ, Nat.succ_mul]
    exact Nat.add_le_add ih (h k)

/-- The pairs that a count asks for: all 256 when it is zero. -/
def pairCount (b : Byte) : Nat := if b.toNat = 0 then 256 else b.toNat

/-- The count is over when all the pairs are taken, and not before. -/
theorem count_over_iff {b : Byte} {k : Nat} (h : k < pairCount b) :
    b - BitVec.ofNat 8 k - 1 = 0 ↔ k + 1 = pairCount b := by
  rw [pairCount] at h ⊢
  by_cases hz : b.toNat = 0
  · rw [if_pos hz] at h ⊢
    bv_omega
  · rw [if_neg hz] at h ⊢
    bv_omega

theorem pairCount_le (b : Byte) : pairCount b ≤ 256 := by
  rw [pairCount]
  split
  · exact Nat.le_refl 256
  · exact Nat.le_of_lt b.isLt

theorem pairCount_ne_zero (b : Byte) : pairCount b ≠ 0 := by
  rw [pairCount]
  split
  · decide
  · assumption

section
variable (s : State)

/-- The byte of pair `k` at X, and the one at Y. -/
def State.pairX (k : Nat) : Nat := (s.read8 (s.x + BitVec.ofNat 16 k)).toNat

def State.pairY (k : Nat) : Nat := (s.read8 (s.y + BitVec.ofNat 16 k)).toNat

/-- The sums of the first `k` pairs. -/
def State.sumsOf (k : Nat) : WavSums :=
  { sop := BitVec.ofNat 32 (sumTo (fun i => s.pairX i * s.pairY i) k), sow := BitVec.ofNat 16 (sumTo s.pairY k) }

/-- `t` is where a WAV begun in `s` has come after `k` pairs. -/
structure State.AtPair (t : State) (k : Nat) : Prop where
  cfg : t.cfg = s.cfg
  kept : s.bytesKept t []
  sp : t.sp = s.sp
  b : t.b = s.b - BitVec.ofNat 8 k
  x : t.x = s.x + BitVec.ofNat 16 k
  y : t.y = s.y + BitVec.ofNat 16 k

end

theorem State.atPair_zero (s : State) : s.AtPair s 0 :=
  ⟨rfl, fun _ _ => rfl, rfl, (BitVec.sub_zero _).symm, (BitVec.add_zero _).symm, (BitVec.add_zero _).symm⟩

/-- The sums of 256 pairs fit their registers. -/
theorem State.sumTo_fits (s : State) {k : Nat} (h : k ≤ 256) :
    sumTo (fun i => s.pairX i * s.pairY i) k < 2 ^ 32 ∧ sumTo s.pairY k < 2 ^ 16 := by
  have hx (i : Nat) : s.pairX i ≤ 255 := Nat.le_of_lt_succ (s.read8 _).isLt
  have hy (i : Nat) : s.pairY i ≤ 255 := Nat.le_of_lt_succ (s.read8 _).isLt
  have hproducts := sumTo_le (fun i => Nat.mul_le_mul (hx i) (hy i)) k
  have hweights := sumTo_le hy k
  omega

section
variable {s t u : State} {k : Nat}

/-- The sums that hold pair `k` too. -/
theorem State.AtPair.sums (h : s.AtPair t k) (hk : k < 256) :
    (s.sumsOf k).sop.toNat + (t.read8 t.x).toNat * (t.read8 t.y).toNat =
        sumTo (fun i => s.pairX i * s.pairY i) (k + 1) ∧
      (s.sumsOf k).sow.toNat + (t.read8 t.y).toNat = sumTo s.pairY (k + 1) := by
  obtain ⟨hproducts, hweights⟩ := s.sumTo_fits (Nat.le_of_lt hk)
  have hx : (t.read8 t.x).toNat = s.pairX k := by rw [State.read8_of_bytesKept h.cfg h.kept, h.x, State.pairX]
  have hy : (t.read8 t.y).toNat = s.pairY k := by rw [State.read8_of_bytesKept h.cfg h.kept, h.y, State.pairY]
  rw [hx, hy, sumTo_succ, sumTo_succ, State.sumsOf, BitVec.toNat_ofNat, BitVec.toNat_ofNat,
    Nat.mod_eq_of_lt hproducts, Nat.mod_eq_of_lt hweights]
  exact ⟨rfl, rfl⟩

/-- A pair that is not the last leads to the next. -/
theorem State.AtPair.next (h : s.AtPair t k) (hk : k + 1 < pairCount s.b)
    (ha : t.added u (t.b - 1) t.sp (s.sumsOf k)) : s.AtPair u (k + 1) ∧ u.wav = some (s.sumsOf (k + 1)) := by
  have hless : k < pairCount s.b := Nat.lt_of_succ_lt hk
  have hcount : t.b - 1 ≠ 0 := by
    rw [h.b, ne_eq, count_over_iff hless]
    exact Nat.ne_of_lt hk
  obtain ⟨hsums, hweights⟩ := h.sums (hless.trans_le (pairCount_le s.b))
  obtain ⟨hsp, -, hspecial, -, hkept, -, hgoes⟩ := ha
  rw [if_neg hcount, hsums, hweights] at hgoes
  obtain ⟨hregs, hwav⟩ := hgoes
  simp only [Prod.mk.injEq] at hregs
  obtain ⟨-, hb, hx, hy⟩ := hregs
  have hcfg : u.cfg = t.cfg := congrArg Prod.fst hspecial
  refine ⟨⟨hcfg.trans h.cfg, fun l hl => (hkept l hl).trans (h.kept l hl), hsp.trans h.sp, ?_, ?_, ?_⟩, hwav⟩
  · rw [hb, h.b]
    bv_omega
  · rw [hx, h.x]
    bv_omega
  · rw [hy, h.y]
    bv_omega

/-- The last pair leaves the exact sums in their registers. -/
theorem State.AtPair.last (h : s.AtPair t k) (hk : k + 1 = pairCount s.b)
    (ha : t.added u (t.b - 1) t.sp (s.sumsOf k)) :
    (u.y ++ u.d).toNat = sumTo (fun i => s.pairX i * s.pairY i) (k + 1) ∧ u.x.toNat = sumTo s.pairY (k + 1) ∧
      u.wav = none ∧ u.ccr.z = true ∧ s.bytesKept u [] ∧ u.sp = s.sp := by
  have hless : k < pairCount s.b := hk ▸ Nat.lt_succ_self k
  have hcount : t.b - 1 = 0 := by rw [h.b, count_over_iff hless, hk]
  have hmost : k + 1 ≤ 256 := hless.trans_le (pairCount_le s.b)
  obtain ⟨hsums, hweights⟩ := h.sums hmost
  obtain ⟨hsumsFit, hweightsFit⟩ := s.sumTo_fits hmost
  obtain ⟨hsp, -, -, hflags, hkept, -, hends⟩ := ha
  rw [if_pos hcount, hsums, hweights, Nat.mod_eq_of_lt hsumsFit, Nat.mod_eq_of_lt hweightsFit] at hends
  obtain ⟨hwav, hyd, hx⟩ := hends
  simp only [Prod.mk.injEq, decide_eq_true hcount, Bool.true_or] at hflags
  obtain ⟨-, -, -, hz⟩ := hflags
  exact ⟨hyd, hx, hwav, hz, fun l hl => (hkept l hl).trans (h.kept l hl), hsp.trans h.sp⟩

end

/-- Every state of the run comes from a pair added to the sums of those before it. -/
theorem State.run_added {s : State} {run : Nat → State} (hfuzzy : s.cfg.version.hasFuzzy = true)
    (hfirst : exec .wav s = .next (run 1))
    (hnext : ∀ k, 1 ≤ k → k < pairCount s.b → exec .wavr (run k) = .next (run (k + 1))) {k : Nat}
    (hk : k < pairCount s.b) : ∃ t, s.AtPair t k ∧ t.added (run (k + 1)) (t.b - 1) t.sp (s.sumsOf k) := by
  induction k with
  | zero =>
    obtain ⟨⟨u, hu, hadded⟩, -⟩ := weightedAveragePair s hfuzzy
    cases hu.symm.trans hfirst
    exact ⟨s, s.atPair_zero, hadded⟩
  | succ k ih =>
    obtain ⟨t, hat, hadded⟩ := ih (Nat.lt_of_succ_lt hk)
    obtain ⟨hrun, hwav⟩ := hat.next hk hadded
    obtain ⟨-, hkept, -⟩ := weightedAveragePair (run (k + 1)) (by rw [hrun.cfg]; exact hfuzzy)
    obtain ⟨u, hu, hmore⟩ := hkept _ hwav
    cases hu.symm.trans (hnext (k + 1) (Nat.le_add_left 1 k) hk)
    exact ⟨run (k + 1), hrun, hmore⟩

/-- Settles O41: the run comes to its last pair by `State.run_added`, which leaves the sums. -/
theorem weightedAverageSums : Obligations.WeightedAverageSums := by
  intro s run n x y hfuzzy hfirst hnext
  obtain ⟨k, hk⟩ := Nat.exists_eq_succ_of_ne_zero (pairCount_ne_zero s.b)
  obtain ⟨t, hat, hadded⟩ := State.run_added hfuzzy hfirst hnext (hk ▸ Nat.lt_succ_self k)
  have hn : n = k + 1 := hk
  rw [hn]
  exact hat.last hk.symm hadded

end Sys2Proof.Machine
end

section
/-!
SUPPORT. Entering a request while the CPU runs (60_exceptions.md R621 to R623, R640 to R643, R651;
45_fuzzy_minmax_mac_table.md R478; 47_jump_call_interrupt.md R542): the inhibit, which a step ends first, plays no part
in what is stacked.
-/

namespace Sys2Proof.Machine

/-! ## The inhibit and the stores -/

theorem State.poke_setIDelay (s : State) (d : Bool) (l : Loc) (v : Byte) :
    (s.setIDelay d).poke l v = (s.poke l v).setIDelay d := by
  cases l
  case cell k =>
    cases h : s.cfg.phys.writable k with
    | true => simp only [State.poke, State.setIDelay_cfg, h, if_true]; rfl
    | false => simp only [State.poke, State.setIDelay_cfg, h, Bool.false_eq_true, if_false]
  case ppage =>
    cases h : s.cfg.phys.expanded with
    | true => simp only [State.poke, State.setIDelay_cfg, h, if_true]; rfl
    | false => simp only [State.poke, State.setIDelay_cfg, h, Bool.false_eq_true, if_false]; rfl
  all_goals rfl

theorem State.write8_setIDelay (s : State) (d : Bool) (a : Word) (v : Byte) :
    (s.setIDelay d).write8 a v = (s.write8 a v).setIDelay d :=
  (s.markStale (s.locate a)).poke_setIDelay d (s.locate a) v

theorem State.write16_setIDelay (s : State) (d : Bool) (a v : Word) :
    (s.setIDelay d).write16 a v = (s.write16 a v).setIDelay d := by
  rw [State.write16, State.write8_setIDelay, State.write8_setIDelay, State.write16]

theorem State.push16_setIDelay (s : State) (d : Bool) (v : Word) :
    (s.setIDelay d).push16 v = (s.push16 v).setIDelay d :=
  (s.setSp (s.sp - 2#16)).write16_setIDelay d (s.sp - 2#16) v

theorem State.withSumsStacked_setIDelay (s : State) (d : Bool) (w : WavSums) :
    (s.setIDelay d).withSumsStacked w = (s.withSumsStacked w).setIDelay d := by
  have counted : (s.setIDelay d).setB ((s.setIDelay d).b - 1#8) = (s.setB (s.b - 1#8)).setIDelay d := rfl
  rw [State.withSumsStacked, counted, State.push16_setIDelay, State.push16_setIDelay, State.push16_setIDelay]
  rfl

/-- An entry clears the inhibit, so that it does not matter what it was. -/
theorem State.enter_setIDelay_entered (s : State) (d : Bool) (vec : Byte) (rtn : Word) (k : EntryKind) :
    s.entered ((s.setIDelay d).enter vec rtn k) vec rtn (entryX s.ccr.x k)
      (entryIpl s.cfg.version.isX s.ccrh.ipl k) :=
  (s.setIDelay d).enter_entered vec rtn k

/-! ## What is entered -/

/-- An interrupted WAV counts the pending pair and stacks its sums (R478). -/
theorem State.wavSuspend_some {s : State} {w : WavSums} (h : s.wav = some w) : s.wavSuspend = s.withSumsStacked w := by
  rw [State.wavSuspend, h]
  rfl

theorem State.wavSuspend_none {s : State} (h : s.wav = none) : s.wavSuspend = s := by
  rw [State.wavSuspend, h]

theorem State.setRtiFrame_self {s : State} {v : Bool} (h : s.rtiFrame = v) : s.setRtiFrame v = s := by
  subst h
  rfl

/-- A request with a fresh frame, the mark of an RTI being clear before and after. -/
theorem State.enterRequest_fresh {s : State} (h : s.rtiFrame = false) (r : Request) :
    (s.enterRequest r).setRtiFrame false = s.wavSuspend.enter r.vec s.pc r.kind := by
  have kept : s.wavSuspend.rtiFrame = s.rtiFrame := by
    rw [State.wavSuspend]
    split <;> simp [State.wavCount]
  rw [State.enterRequest, if_neg (by simp [h])]
  exact State.setRtiFrame_self (by simp [State.enter, kept, h])

/-- A request with the frame that an RTI has just pulled. -/
theorem State.enterRequest_again {s : State} (h : s.rtiFrame = true) (r : Request) :
    (s.enterRequest r).setRtiFrame false = (s.setRtiFrame false).reenter r.vec r.kind := by
  rw [State.enterRequest, if_pos h]
  rfl

theorem State.frameSize_of_cfg {s t : State} (h : t.cfg = s.cfg) : t.frameSize = s.frameSize := by
  rw [State.frameSize, State.frameSize, h]

/-- Such an entry stores nothing: SP goes back below the frame (R542). -/
theorem State.reenter_spec (s : State) (vec : Byte) (k : EntryKind) :
    let t := s.reenter vec k
    s.vectored t vec (entryX s.ccr.x k) (entryIpl s.cfg.version.isX s.ccrh.ipl k) ∧
      t.sp = s.sp - BitVec.ofNat 16 s.frameSize ∧ s.bytesKept t [] :=
  ⟨State.startHandler_vectored (by simp) (by simp) (by simp) vec k, by simp [State.reenter],
    State.bytesKept_of_bus (by simp [State.reenter]) []⟩

/-- Nor does the inhibit of before. -/
theorem State.reenter_setIDelay_spec (s : State) (d : Bool) (vec : Byte) (k : EntryKind) :
    let t := (s.setIDelay d).reenter vec k
    s.vectored t vec (entryX s.ccr.x k) (entryIpl s.cfg.version.isX s.ccrh.ipl k) ∧
      t.sp = s.sp - BitVec.ofNat 16 s.frameSize ∧ s.bytesKept t [] :=
  (s.setIDelay d).reenter_spec vec k

/-- What the sums and the pending count leave alone (R478). -/
theorem State.withSumsStacked_kept (s : State) (w : WavSums) : (s.withSumsStacked w).ccr = s.ccr ∧
    (s.withSumsStacked w).ccrh = s.ccrh ∧ (s.withSumsStacked w).cfg = s.cfg := by
  simp [State.withSumsStacked]

/-- Settles O58: the step is `State.enterRequest`, which enters as `State.enter_entered` says, or again as
`State.reenter_spec` says. -/
theorem interruptEntry : Obligations.InterruptEntry := by
  intro s r hreset hrun hrecognised x ipl s0
  have fresh (hrti : s.rtiFrame = false) : s0 = s.begin := State.setRtiFrame_self (by simpa using hrti)
  have request (hrti : s.rtiFrame = false) :=
    State.enterRequest_fresh (s := s.begin.setIDelay false) (by simpa using hrti) r
  refine ⟨_, step_request hreset hrun hrecognised, fun hrti hwav => ?plain, fun hrti w hwav => ?sums,
    fun hrti => ?again⟩
  case plain =>
    have noSums : (s.begin.setIDelay false).wav = none := by simpa using hwav
    have entered := s.begin.enter_setIDelay_entered false r.vec s.pc r.kind
    rw [State.begin_ccr, State.begin_ccrh, State.begin_cfg] at entered
    rw [fresh hrti, request hrti, State.wavSuspend_none noSums, State.setIDelay_pc, State.begin_pc]
    exact entered
  case sums =>
    have sums : (s.begin.setIDelay false).wav = some w := by simpa using hwav
    have entered := (s.begin.withSumsStacked w).enter_setIDelay_entered false r.vec s.pc r.kind
    obtain ⟨hccr, hccrh, hcfg⟩ := s.begin.withSumsStacked_kept w
    rw [hccr, hccrh, hcfg, State.begin_ccr, State.begin_ccrh, State.begin_cfg] at entered
    rw [fresh hrti, request hrti, State.wavSuspend_some sums, State.withSumsStacked_setIDelay, State.setIDelay_pc,
      State.begin_pc]
    exact entered
  case again =>
    have marked : (s.begin.setIDelay false).rtiFrame = true := by simpa using hrti
    have commute : (s.begin.setIDelay false).setRtiFrame false = s0.setIDelay false := rfl
    have hregs : s0.ccr = s.ccr ∧ s0.ccrh = s.ccrh ∧ s0.cfg = s.cfg ∧ s0.sp = s.sp := by simp [s0]
    have hbus : s0.bus = s.begin.bus := by simp [s0]
    obtain ⟨hccr, hccrh, hcfg, hstack⟩ := hregs
    obtain ⟨hvectored, hsp, hkept⟩ := s0.reenter_setIDelay_spec false r.vec r.kind
    rw [hccr, hccrh, hcfg] at hvectored
    rw [State.frameSize_of_cfg hcfg, hstack] at hsp
    rw [State.enterRequest_again marked, commute]
    exact ⟨hvectored, hsp, fun l hl => (hkept l hl).trans (State.peek_of_bus hbus l)⟩

end Sys2Proof.Machine
end

section
/-!
SUPPORT. Branches and loop primitives (46_branch_loop.md R500 to R518, R522 to R529, R720 to R738): how a branch ends,
taken or not, the conditions as the spec writes them, and what the count of a loop primitive tests.
-/

namespace Sys2Proof.Machine

/-! ## How a branch ends -/

/-- From `s` to `t` a branch by `offset` from the next instruction has acted, taken when `taken` says so: the PC goes and
the queue is refilled (R86, D7), and nothing else changes. -/
def State.branched (s t : State) (taken : Bool) (offset : Int) : Prop :=
  t.pc = (if taken then BitVec.ofInt 16 (s.pc.toNat + offset) else s.pc) ∧ t.regs = s.regs ∧ t.ccr = s.ccr ∧
    t.special = s.special ∧ s.bytesKept t [] ∧ t.stale = (if taken then [] else s.stale) ∧ t.pageStored = s.pageStored

theorem State.branchIf_branched (s : State) (taken : Bool) (offset : Word) :
    s.branched (s.branchIf taken offset) taken offset.toInt := by
  obtain ⟨goes, stays⟩ := s.branchIf_pc (Iff.refl (taken = true)) offset
  cases taken with
  | false => exact ⟨stays Bool.false_ne_true, rfl, rfl, rfl, State.bytesKept_of_bus rfl [], rfl, rfl⟩
  | true => exact ⟨goes rfl, rfl, rfl, rfl, State.bytesKept_of_bus rfl [], rfl, rfl⟩

/-- The offset of a branch, sign-extended from fewer bits, counts as it was (R500, R522). -/
theorem State.branchIf_signExtend_branched (s : State) (taken : Bool) {n : Nat} (h : n ≤ 16) (offset : BitVec n) :
    s.branched (s.branchIf taken (offset.signExtend 16)) taken offset.toInt := by
  have goes := s.branchIf_branched taken (offset.signExtend 16)
  rwa [BitVec.toInt_signExtend_of_le h] at goes

theorem State.shortBranch_branched (s : State) (taken : Bool) (rel : Byte) :
    s.branched (s.shortBranch taken rel) taken rel.toInt :=
  s.branchIf_signExtend_branched taken (by decide) rel

theorem State.longBranch_branched (s : State) (taken : Bool) (rel : Word) :
    s.branched (s.longBranch taken rel) taken rel.toInt :=
  s.branchIf_branched taken rel

/-! ## The conditions (R503, R511 to R518) -/

theorem condHigher_eq (f : Ccr) : condHigher f = (!f.c && !f.z) := Bool.not_or _ _

theorem condGreaterEqual_eq (f : Ccr) : condGreaterEqual f = (f.n == f.v) := Bool.not_not _

theorem condGreater_eq (f : Ccr) : condGreater f = (!f.z && f.n == f.v) := by
  rw [← condGreaterEqual_eq]
  exact Bool.not_or _ _

/-- Settles O45: every branch is a `State.shortBranch` or a `State.longBranch` under its condition. -/
theorem branches : Obligations.Branches := by
  intro s f goes
  have short {taken cond : Bool} (h : taken = cond) (rel : Byte) :
      s.branched (s.shortBranch taken rel) cond rel.toInt := h ▸ s.shortBranch_branched taken rel
  have long {taken cond : Bool} (h : taken = cond) (rel : Word) :
      s.branched (s.longBranch taken rel) cond rel.toInt := h ▸ s.longBranch_branched taken rel
  refine ⟨fun rel => ?short, fun rel => ?long⟩ <;>
    simp only [List.forall_mem_cons, List.not_mem_nil, false_implies, implies_true, and_true]
  case short =>
    exact ⟨⟨_, rfl, short rfl rel⟩, ⟨_, rfl, short rfl rel⟩, ⟨_, rfl, short rfl rel⟩, ⟨_, rfl, short rfl rel⟩,
      ⟨_, rfl, short rfl rel⟩, ⟨_, rfl, short rfl rel⟩, ⟨_, rfl, short rfl rel⟩, ⟨_, rfl, short rfl rel⟩,
      ⟨_, rfl, short rfl rel⟩, ⟨_, rfl, short rfl rel⟩, ⟨_, rfl, short (condHigher_eq f) rel⟩, ⟨_, rfl, short rfl rel⟩,
      ⟨_, rfl, short rfl rel⟩, ⟨_, rfl, short rfl rel⟩, ⟨_, rfl, short (condGreaterEqual_eq f) rel⟩,
      ⟨_, rfl, short (condGreater_eq f) rel⟩, ⟨_, rfl, short rfl rel⟩, ⟨_, rfl, short rfl rel⟩⟩
  case long =>
    exact ⟨⟨_, rfl, long rfl rel⟩, ⟨_, rfl, long rfl rel⟩, ⟨_, rfl, long rfl rel⟩, ⟨_, rfl, long rfl rel⟩,
      ⟨_, rfl, long rfl rel⟩, ⟨_, rfl, long rfl rel⟩, ⟨_, rfl, long rfl rel⟩, ⟨_, rfl, long rfl rel⟩,
      ⟨_, rfl, long rfl rel⟩, ⟨_, rfl, long rfl rel⟩, ⟨_, rfl, long (condHigher_eq f) rel⟩, ⟨_, rfl, long rfl rel⟩,
      ⟨_, rfl, long rfl rel⟩, ⟨_, rfl, long rfl rel⟩, ⟨_, rfl, long (condGreaterEqual_eq f) rel⟩,
      ⟨_, rfl, long (condGreater_eq f) rel⟩, ⟨_, rfl, long rfl rel⟩, ⟨_, rfl, long rfl rel⟩⟩

/-! ## The count of a loop primitive (R522) -/

/-- An integer added to a bit vector is added to its signed number. -/
theorem add_ofInt {n : Nat} (p : BitVec n) (k : Int) : p + BitVec.ofInt n k = BitVec.ofInt n (p.toInt + k) := by
  rw [BitVec.ofInt_add, BitVec.ofInt_toInt]

/-- A sum is zero when the exact sum of the unsigned number is a multiple of the range. -/
theorem add_ofInt_beq_zero_iff {n : Nat} (p : BitVec n) (k : Int) :
    (p + BitVec.ofInt n k == 0) = true ↔ ((p.toNat : Int) + k) % (2 ^ n : Nat) = 0 := by
  have sum : p + BitVec.ofInt n k = BitVec.ofInt n (p.toNat + k) := by
    rw [BitVec.ofInt_add, BitVec.ofInt_natCast, BitVec.ofNat_toNat, BitVec.setWidth_eq]
  have range : (0 : Int) < (2 ^ n : Nat) := Int.natCast_pos.mpr (Nat.two_pow_pos n)
  have nonneg := Int.emod_nonneg ((p.toNat : Int) + k) range.ne'
  rw [beq_iff_eq, sum, ← BitVec.toNat_inj, BitVec.toNat_ofInt, BitVec.ofNat_eq_ofNat, BitVec.toNat_ofNat, Nat.zero_mod]
  omega

/-- Counting changes the counter and nothing else. -/
theorem State.regsOnly_loopCount (s : State) (r : LoopReg) (k : Int) : s.RegsOnly (s.loopCount r k).2 := by
  cases r <;> exact ⟨rfl, rfl, rfl, rfl, rfl⟩

/-- How a loop primitive ends, `counted` being the state with the counter changed and `zero` saying that it is zero. -/
theorem State.loop_spec (s : State) (r : LoopReg) (k : Int) (onZero : Bool) (off : BitVec 9) {counted : State}
    {zero : Prop} (hcounted : (s.loopCount r k).2 = counted) (hzero : (s.loopCount r k).1 = true ↔ zero) :
    let t := s.loop r k onZero off
    t.regs = counted.regs ∧ t.ccr = s.ccr ∧ t.special = s.special ∧ s.bytesKept t [] ∧ t.pageStored = s.pageStored ∧
      ((zero ↔ onZero = true) → t.pc = BitVec.ofInt 16 (s.pc.toNat + off.toInt) ∧ t.stale = []) ∧
      (¬(zero ↔ onZero = true) → t.pc = s.pc ∧ t.stale = s.stale) := by
  subst hcounted
  have htaken : ((s.loopCount r k).1 == onZero) = true ↔ (zero ↔ onZero = true) := by
    rw [← hzero, beq_iff_eq, Bool.eq_iff_iff]
  have count := s.regsOnly_loopCount r k
  obtain ⟨hstale, hpageStored⟩ := State.marks_eq.mp count.marks
  obtain ⟨hpc, hregs, hccr, hspecial, hkept, hqueue, hpage⟩ := (s.loopCount r k).2.branchIf_signExtend_branched
    ((s.loopCount r k).1 == onZero) (by decide) off
  have kept := State.bytesKept_of_bus count.bus []
  rw [count.pc] at hpc
  rw [hstale] at hqueue
  exact ⟨hregs, hccr.trans count.ccr, hspecial.trans count.special, fun l hl => (hkept l hl).trans (kept l hl),
    hpage.trans hpageStored, fun h => ⟨hpc.trans (if_pos (htaken.mpr h)), hqueue.trans (if_pos (htaken.mpr h))⟩,
    fun h => ⟨hpc.trans (if_neg (mt htaken.mp h)), hqueue.trans (if_neg (mt htaken.mp h))⟩⟩

/-- Settles O48: every loop primitive counts, as an exact sum in the bits of its counter, and then branches. -/
theorem loopPrimitives : Obligations.LoopPrimitives := by
  intro s r off counted
  have counts (k : Int) : (s.loopCount r k).2 = (counted k).1 ∧ ((s.loopCount r k).1 = true ↔ (counted k).2) := by
    cases r with
    | a => exact ⟨congrArg s.setA (add_ofInt s.a k), add_ofInt_beq_zero_iff s.a k⟩
    | b => exact ⟨congrArg s.setB (add_ofInt s.b k), add_ofInt_beq_zero_iff s.b k⟩
    | d => exact ⟨congrArg s.setD (add_ofInt s.d k), add_ofInt_beq_zero_iff s.d k⟩
    | x => exact ⟨congrArg s.setX (add_ofInt s.x k), add_ofInt_beq_zero_iff s.x k⟩
    | y => exact ⟨congrArg s.setY (add_ofInt s.y k), add_ofInt_beq_zero_iff s.y k⟩
    | sp => exact ⟨congrArg s.setSp (add_ofInt s.sp k), add_ofInt_beq_zero_iff s.sp k⟩
  have ends (k : Int) (onZero : Bool) := s.loop_spec r k onZero off (counts k).1 (counts k).2
  -- `eq_self` would rewrite the statement's `p.2.2 = true` to `True`
  simp only [-eq_self, List.forall_mem_cons, List.not_mem_nil, false_implies, implies_true, and_true]
  exact ⟨⟨_, rfl, ends (-1) true⟩, ⟨_, rfl, ends (-1) false⟩, ⟨_, rfl, ends 0 true⟩, ⟨_, rfl, ends 0 false⟩,
    ⟨_, rfl, ends 1 true⟩, ⟨_, rfl, ends 1 false⟩⟩

end Sys2Proof.Machine
end

section
/-!
SUPPORT. The exceptions that no request starts, and the return from an exception (47_jump_call_interrupt.md R541, R543
to R549).
-/

namespace Sys2Proof.Machine

/-! ## SWI, SYS and TRAP (R543 to R547) -/

/-- A software exception keeps X and IPL (R641, R642). -/
theorem State.enter_software_entered (s : State) (vec : Byte) :
    s.entered (s.enter vec s.pc .software) vec s.pc s.ccr.x s.ccrh.ipl :=
  s.enter_entered vec s.pc .software

/-- SYS is an exception of its own where the version has it, else the trap (R545). -/
theorem State.systemCall_eq (s : State) :
    s.systemCall = s.enter (if s.cfg.version.hasSYS then 0x12#8 else 0xF8#8) s.pc .software := by
  rw [State.systemCall]
  split <;> rfl

/-- Settles O53: all three are an entry of kind `.software`, by `State.enter_entered`. -/
theorem softwareExceptions : Obligations.SoftwareExceptions := by
  intro s
  exact ⟨⟨_, rfl, s.enter_software_entered 0xF6⟩, ⟨_, next_congr s.systemCall_eq, s.enter_software_entered _⟩,
    fun _ => ⟨_, rfl, s.enter_software_entered 0xF8⟩⟩

/-! ## Forced instructions (R549) -/

/-- A forced SWI is an entry, from the state with the sums of an interrupted WAV on the stack. -/
theorem State.force_swi_entered (s : State) :
    (s.wav = none → s.entered (s.force .swi) 0xF6 s.pc s.ccr.x s.ccrh.ipl) ∧
      ∀ w, s.wav = some w → (s.withSumsStacked w).entered (s.force .swi) 0xF6 s.pc s.ccr.x s.ccrh.ipl := by
  refine ⟨fun hwav => ?_, fun w hwav => ?_⟩
  · rw [State.force, State.wavSuspend_none hwav]
    exact s.enter_software_entered 0xF6
  · have entered := (s.withSumsStacked w).enter_entered 0xF6 s.pc .software
    obtain ⟨hccr, hccrh, -⟩ := s.withSumsStacked_kept w
    rw [hccr, hccrh] at entered
    rw [State.force, State.wavSuspend_some hwav]
    exact entered

/-- What a boundary leaves of the registers that a forced instruction looks at. -/
theorem State.ready_kept (s : State) :
    s.ready.ccr = s.ccr ∧ s.ready.ccrh = s.ccrh ∧ s.ready.wav = s.wav := by simp [State.ready]

/-- Settles O11: the step is `State.force` from the state at the boundary, or a wait in background mode. -/
theorem forcedInstructions : Obligations.ForcedInstructions := by
  intro s hreset
  refine ⟨fun hrun hnone => ⟨fun hswi => ?swi, fun hbgnd => ?bgnd⟩, fun hrun => step_bdm hreset hrun⟩
  case swi =>
    have entered := s.ready.force_swi_entered
    obtain ⟨hccr, hccrh, hwav⟩ := s.ready_kept
    rw [State.ready_pc, hccr, hccrh, hwav] at entered
    exact ⟨_, step_forced hreset hrun hnone hswi, entered⟩
  case bgnd => exact step_forced hreset hrun hnone hbgnd

/-! ## RTI (R541) -/

/-- Settles O54: each register from its place in the frame, by `State.returnFromException_spec`. -/
theorem returnFromInterrupt : Obligations.ReturnFromInterrupt := by
  intro s isX up w
  obtain ⟨hccr, hccrh, hb, ha, hx, hy, hpc, hsp, hspecial, hbus⟩ := s.returnFromException_spec
  refine ⟨_, rfl, hccr, hccrh, ?_, hsp, hspecial, State.bytesKept_of_bus hbus [], rfl⟩
  rw [hb, ha, hx, hy, hpc]
  rfl

end Sys2Proof.Machine
end

section
/-!
SUPPORT. The stack in plain memory (20_memory.md R61, R68, R70): where a push stores, and which bytes read alike in two
states whatever their PPAGE.
-/

namespace Sys2Proof.Machine

/-! ## Stores and the bus -/

/-- What a store leaves on the bus is decided by the bus. -/
theorem State.poke_bus_congr {s t : State} (h : t.bus = s.bus) (l : Loc) (v : Byte) :
    (t.poke l v).bus = (s.poke l v).bus := by
  simp only [State.bus, Prod.mk.injEq] at h
  obtain ⟨hcfg, hppage, hgpage, hdirect, hvectorBase, hmem, htick⟩ := h
  cases l with
  | cell k =>
    simp only [State.poke, hcfg]
    split <;> simp [State.bus, *]
  | ppage =>
    simp only [State.poke, hcfg]
    split <;> simp [State.bus, *]
  | _ => simp [State.poke, State.bus, *]

theorem State.write8_bus_congr {s t : State} (h : t.bus = s.bus) (a : Word) (v : Byte) :
    (t.write8 a v).bus = (s.write8 a v).bus := by
  rw [State.write8, State.write8, State.locate_of_bus h]
  exact State.poke_bus_congr (s := s.markStale _) (t := t.markStale _) h _ v

theorem State.write16_bus_congr {s t : State} (h : t.bus = s.bus) (a v : Word) :
    (t.write16 a v).bus = (s.write16 a v).bus :=
  State.write8_bus_congr (State.write8_bus_congr h a _) _ _

/-- A word pushed is stored two below the SP. -/
theorem State.push16_bus (s : State) (v : Word) : (s.push16 v).bus = (s.write16 (s.sp - 2) v).bus :=
  State.write16_bus_congr (State.setSp_bus s _) _ v

/-- A word just stored is held, whatever else but memory has changed since. -/
theorem State.storedWord_of_bus {s t : State} {a v : Word} (h : t.bus = (s.write16 a v).bus) : s.storedWord t a v := by
  obtain ⟨high, low⟩ := s.storedWord_write16 a v s.ccr
  have same : t.bus = ((s.write16 a v).setCcr s.ccr).bus := h
  exact ⟨(State.peek_of_bus same _).trans high, (State.peek_of_bus same _).trans low⟩

/-- Every location but the two of a word just stored keeps its byte. -/
theorem State.bytesKept_write16_of_bus {s t : State} {a v : Word} (h : t.bus = (s.write16 a v).bus) :
    s.bytesKept t (s.wordLocs a v) := by
  intro l hl
  simp only [State.wordLocs, List.mem_cons, List.not_mem_nil, or_false, not_or] at hl
  obtain ⟨hfirst, hsecond⟩ := hl
  rw [State.peek_of_bus h, State.peek_write16_other _ _ _ hfirst hsecond]

/-! ## Memory at a fixed place (R68) -/

/-- Plain memory lies at an address, and PPAGE does not decide where. -/
def State.fixedRam (s : State) (a : Word) : Prop :=
  s.ram a ∧ (s.cfg.phys.expanded = true → inWindow a = false)

theorem State.plain_iff (s : State) (a : Word) (n : Nat) : s.plain a n ↔ ∀ k < n, s.fixedRam (a + BitVec.ofNat 16 k) :=
  Iff.rfl

section
variable {s t : State} {a : Word}

theorem State.fixedRam.locate_of_cfg (h : s.fixedRam a) (hc : t.cfg = s.cfg) : t.locate a = s.locate a := by
  have outside : ¬(s.cfg.phys.expanded = true ∧ inWindow a = true) := fun ⟨hexpanded, hwindow⟩ =>
    absurd hwindow (by rw [h.2 hexpanded]; decide)
  rw [State.locate, State.locate, State.locAt_of_cfg hc, State.localKey_outside outside,
    State.localKey_outside (by rwa [hc])]

theorem State.fixedRam.of_cfg (h : s.fixedRam a) (hc : t.cfg = s.cfg) : t.fixedRam a :=
  ⟨State.ram_congr hc (h.locate_of_cfg hc) h.1, by rw [hc]; exact h.2⟩

theorem State.fixedRam.locate_ne_ppage (h : s.fixedRam a) : s.locate a ≠ .ppage := by
  obtain ⟨⟨k, hk, -⟩, -⟩ := h
  rw [hk]
  exact nofun

/-- Such a byte reads alike where its location holds the same, under whatever pages. -/
theorem State.fixedRam.read8_eq {u : State} (h : s.fixedRam a) (ht : t.cfg = s.cfg) (hu : u.cfg = s.cfg)
    (hp : u.peek (s.locate a) = t.peek (s.locate a)) : u.read8 a = t.read8 a := by
  rw [State.read8, State.read8, h.locate_of_cfg hu, h.locate_of_cfg ht, hp]

theorem State.fixedRam.read8_setPpage (h : s.fixedRam a) (page : Byte) : (s.setPpage page).read8 a = s.read8 a := by
  refine h.read8_eq rfl rfl ?_
  obtain ⟨⟨k, hk, -⟩, -⟩ := h
  rw [hk]
  rfl

theorem State.fixedRam.read16_setPpage (h : s.fixedRam a) (h1 : s.fixedRam (a + 1#16)) (page : Byte) :
    (s.setPpage page).read16 a = s.read16 a := by
  rw [State.read16, h.read8_setPpage, h1.read8_setPpage, State.read16]

end

theorem State.peek_ppage (s : State) : s.peek .ppage = s.ppage := rfl

theorem State.peek_setPpage_other (s : State) (page : Byte) {l : Loc} (h : l ≠ .ppage) :
    (s.setPpage page).peek l = s.peek l := by
  cases l
  case ppage => exact absurd rfl h
  all_goals rfl

/-! ## A stretch below an address -/

/-- The place `j` below `p`, counted from the bottom of the stretch. -/
theorem word_below (p : Word) {n j : Nat} (hn : n < 65536) (hj : j ≤ n) :
    p - BitVec.ofNat 16 n + BitVec.ofNat 16 (n - j) = p - BitVec.ofNat 16 j := by
  rw [word_sub_add]
  congr 1
  apply BitVec.eq_of_toNat_eq
  simp only [BitVec.toNat_sub, BitVec.toNat_ofNat]
  omega

theorem State.plain.below {s : State} {p : Word} {n : Nat} (h : s.plain (p - BitVec.ofNat 16 n) n) (hn : n < 65536)
    {j : Nat} (h0 : 0 < j) (hj : j ≤ n) : s.fixedRam (p - BitVec.ofNat 16 j) := by
  rw [← word_below p hn hj]
  exact (s.plain_iff _ n).mp h (n - j) (by omega)

theorem State.mem_locsFrom_below (s : State) (p : Word) {n j : Nat} (hn : n < 65536) (h0 : 0 < j) (hj : j ≤ n) :
    s.locate (p - BitVec.ofNat 16 j) ∈ s.locsFrom (p - BitVec.ofNat 16 n) n := by
  rw [← word_below p hn hj]
  exact List.mem_map.mpr ⟨n - j, List.mem_range.mpr (by omega), rfl⟩

end Sys2Proof.Machine
end

section
/-!
SUPPORT. Jumps, subroutine calls and returns (47_jump_call_interrupt.md R530 to R540).
-/

namespace Sys2Proof.Machine

/-! ## JMP, BSR, JSR and RTS (R531 to R534) -/

theorem wordBytes_append (h l : Byte) : wordBytes (h ++ l) = [h, l] :=
  congrArg₂ (fun p q => [p, q]) (hiByte_join h l) (loByte_join h l)

/-- A jump after the push of `v`: the word lies below the SP, and nothing but PC and SP changes besides. -/
theorem State.push16_jump_spec (s : State) (v target : Word) :
    let t := (s.push16 v).jump target
    t.pc = target ∧ t.regs = (s.setSp (s.sp - 2)).regs ∧ t.ccr = s.ccr ∧ t.special = s.special ∧
      s.storedWord t (s.sp - 2) v ∧ s.bytesKept t (s.wordLocs (s.sp - 2) v) ∧ t.stale = [] := by
  have hbus : ((s.push16 v).jump target).bus = (s.write16 (s.sp - 2) v).bus :=
    (State.jump_bus _ target).trans (s.push16_bus v)
  exact ⟨rfl, by simp [State.regs], by simp, by simp, State.storedWord_of_bus hbus,
    State.bytesKept_write16_of_bus hbus, rfl⟩

/-- The addressing mode does not move the PC, so that the address pushed is that of the next instruction. -/
theorem State.jumpSubroutine_eq (s : State) (op : DirExtIdx) :
    s.jumpSubroutine op = ((s.ea op).2.push16 s.pc).jump (s.ea op).1 :=
  congrArg (fun p => ((s.ea op).2.push16 p).jump (s.ea op).1) (s.ea_pc op)

/-- JSR: the push after the addressing mode has led from `s` to `s1`. -/
theorem State.jumpSubroutine_spec (s : State) (op : DirExtIdx) :
    let s1 := (s.ea op).2
    let t := s.jumpSubroutine op
    t.pc = (s.ea op).1 ∧ s.modeOnly s1 (DirExtIdx.autoTarget op) ∧ t.regs = (s1.setSp (s1.sp - 2)).regs ∧
      t.ccr = s.ccr ∧ t.special = s.special ∧ s1.storedWord t (s1.sp - 2) s.pc ∧
      s.bytesKept t (s1.wordLocs (s1.sp - 2) s.pc) ∧ t.stale = [] := by
  obtain ⟨hpc, hregs, hccr, hspecial, hstored, hkept, hstale⟩ := (s.ea op).2.push16_jump_spec s.pc (s.ea op).1
  rw [State.jumpSubroutine_eq]
  exact ⟨hpc, s.ea_modeOnly op, hregs, hccr.trans (s.ea_ccr op), hspecial.trans (s.ea_special op), hstored,
    fun l hl => (hkept l hl).trans (State.peek_of_bus (s.ea_bus op) l), hstale⟩

/-- Settles O49: the encodings by `reads_encode`; BSR and JSR by `State.push16_jump_spec`. -/
theorem jumpsAndSubroutines : Obligations.JumpsAndSubroutines := by
  refine ⟨fun v rest => ⟨fun hh ll => ?ext, fun xb => ⟨?jmp, ?jsr⟩, fun n => ⟨?bsr, ?dir⟩, ?rts⟩,
    fun s => ⟨fun op => ?jumps, fun rel => ?branches, fun op => ⟨_, rfl, s.jumpSubroutine_spec op⟩, ?returns⟩⟩
  case ext =>
    have jmp := reads_encode (v := v) (i := .jmp (.ext (hh ++ ll))) rfl rest
    have jsr := reads_encode (v := v) (i := .jsr (.ext (hh ++ ll))) rfl rest
    simp only [encode, ExtIdx.bytes, DirExtIdx.bytes, wordBytes_append] at jmp jsr
    exact ⟨jmp, jsr⟩
  case jmp => exact reads_encode (i := .jmp (.idx xb)) rfl rest
  case jsr => exact reads_encode (i := .jsr (.idx xb)) rfl rest
  case bsr => exact reads_encode (i := .bsr n) rfl rest
  case dir => exact reads_encode (i := .jsr (.dir n)) rfl rest
  case rts => exact reads_encode (i := .rts) rfl rest
  case jumps =>
    exact ⟨_, rfl, rfl, s.eaExtIdx_modeOnly op, rfl, s.eaExtIdx_ccr op, s.eaExtIdx_special op,
      State.bytesKept_of_bus (s.eaExtIdx_bus op) [], rfl⟩
  case branches =>
    obtain ⟨hpc, hrest⟩ := s.push16_jump_spec s.pc (s.relative (sextByte rel))
    exact ⟨_, rfl, hpc.trans (add_signExtend_eq_ofInt s.pc rel), hrest⟩
  case returns => exact ⟨_, rfl, rfl, rfl, rfl, rfl, State.bytesKept_of_bus rfl [], rfl⟩

/-! ## CALL and RTC (R535 to R540) -/

theorem State.pointerAddress_snd (s : State) (xb : Indexed) : (s.pointerAddress xb).2 = (s.indexed xb).2 := by
  cases xb <;> rfl

section
variable {s s1 : State} {op : CallOp} {target : Word} {page : Byte}

/-- The two orders of stacking and change of page (U17). -/
theorem State.callSubroutine_eq (h : s.callTarget op = (target, page, s1)) :
    s.callSubroutine op = if s1.stackInWindow && Config.callPageFirst s1.tick then
        (((s1.setPpage page).push16 s1.pc).push8 s1.ppage).jump target
      else (((s1.push16 s1.pc).push8 s1.ppage).setPpage page).jump target := by
  rw [State.callSubroutine, h]

/-- What both orders leave. -/
theorem State.callSubroutine_regs (h : s.callTarget op = (target, page, s1)) :
    let t := s.callSubroutine op
    t.pc = target ∧ (t.a, t.b, t.x, t.y) = (s1.a, s1.b, s1.x, s1.y) ∧ t.sp = s1.sp - 3 ∧ t.ccr = s1.ccr ∧
      t.special = s1.special ∧ t.stale = [] := by
  have hsp : s1.sp - 2#16 - 1#16 = s1.sp - 3#16 := word_sub_sub _ _ _
  rw [State.callSubroutine_eq h]
  split <;> simp [hsp]

theorem State.stackInWindow_of_plain (h : s.plain (s.sp - 3) 3) : s.stackInWindow = false := by
  have outside {j : Nat} (h0 : 0 < j) (hj : j ≤ 3) := (h.below (by decide) h0 hj).2
  rw [State.stackInWindow, Bool.and_eq_false_imp]
  intro hexpanded
  have h1 : inWindow (s.sp - 1#16) = false := outside (j := 1) (by decide) (by decide) hexpanded
  have h2 : inWindow (s.sp - 2#16) = false := outside (j := 2) (by decide) (by decide) hexpanded
  have h3 : inWindow (s.sp - 3#16) = false := outside (j := 3) (by decide) (by decide) hexpanded
  rw [h1, h2, h3]
  rfl

/-- A word and a byte pushed into plain memory: both read back, and every other location keeps its byte. -/
theorem State.push16_push8_plain (h : s.plain (s.sp - 3) 3) (v : Word) (w : Byte) :
    let u := (s.push16 v).push8 w
    u.read16 (s.sp - 2) = v ∧ u.read8 (s.sp - 3) = w ∧ s.bytesKept u (s.locsFrom (s.sp - 3) 3) := by
  have ram {j : Nat} (h0 : 0 < j) (hj : j ≤ 3) := (h.below (by decide) h0 hj).1
  have ram1 : s.ram (s.sp - 1#16) := ram (j := 1) (by decide) (by decide)
  have ram2 : s.ram (s.sp - 2#16) := ram (j := 2) (by decide) (by decide)
  have ram3 : s.ram (s.sp - 3#16) := ram (j := 3) (by decide) (by decide)
  have second : s.sp - 2#16 + 1#16 = s.sp - 1#16 := word_sub_add _ _ _
  have third : (s.push16 v).sp - 1#16 = s.sp - 3#16 := by rw [State.push16_sp, word_sub_sub]; rfl
  obtain ⟨place, word⟩ := State.push16_plain rfl second (by decide) (by decide) ram2 ram1 v
  obtain ⟨-, byte⟩ := State.push8_plain third (by decide) (State.ram_congr (by simp) (place _) ram3) w
  refine ⟨?_, ?_, fun l hl => ?_⟩
  · have high := (byte 2#16 (by decide)).trans (word 2#16 (by decide))
    have low := (byte 1#16 (by decide)).trans (word 1#16 (by decide))
    rw [← second] at low
    exact (congrArg₂ joinBytes high low).trans (joinBytes_hi_lo v)
  · exact byte 3#16 (by decide)
  · have apart {j : Nat} (h0 : 0 < j) (hj : j ≤ 3) := State.not_locsFrom (by decide) hl h0 hj
    rw [State.push8_kept third w (by rw [place]; exact apart (j := 3) (by decide) (by decide)),
      State.push16_kept rfl second ram2 v (apart (j := 2) (by decide) (by decide))
        (apart (j := 1) (by decide) (by decide))]

/-- With the stack in plain memory the page changes last, and the stack holds the return address above the old page. -/
theorem State.callSubroutine_plain (h : s.callTarget op = (target, page, s1)) (hp : s1.plain (s1.sp - 3) 3) :
    let t := s.callSubroutine op
    t.ppage = page ∧ t.read16 (s1.sp - 2) = s1.pc ∧ t.read8 (s1.sp - 3) = s1.ppage ∧
      s1.bytesKept t (.ppage :: s1.locsFrom (s1.sp - 3) 3) := by
  obtain ⟨hword, hbyte, hkept⟩ := State.push16_push8_plain hp s1.pc s1.ppage
  have fixed {j : Nat} (h0 : 0 < j) (hj : j ≤ 3) :
      ((s1.push16 s1.pc).push8 s1.ppage).fixedRam (s1.sp - BitVec.ofNat 16 j) :=
    (hp.below (by decide) h0 hj).of_cfg (by simp)
  have second : s1.sp - 2#16 + 1#16 = s1.sp - 1#16 := word_sub_add _ _ _
  have first : ((s1.push16 s1.pc).push8 s1.ppage).fixedRam (s1.sp - 2#16 + 1#16) := by
    rw [second]
    exact fixed (j := 1) (by decide) (by decide)
  rw [State.callSubroutine_eq h, State.stackInWindow_of_plain hp, Bool.false_and, if_neg Bool.false_ne_true]
  refine ⟨rfl, ?_, ?_, fun l hl => ?_⟩
  · have kept := (fixed (j := 2) (by decide) (by decide)).read16_setPpage first page
    exact (State.read16_of_bus (State.jump_bus _ target) _).trans (kept.trans hword)
  · have kept := (fixed (j := 3) (by decide) (by decide)).read8_setPpage page
    exact (State.read8_of_bus (State.jump_bus _ target) _).trans (kept.trans hbyte)
  · obtain ⟨hpage, hstack⟩ := List.ne_and_not_mem_of_not_mem_cons hl
    rw [State.peek_of_bus (State.jump_bus _ target), State.peek_setPpage_other _ page hpage, hkept l hstack]

end

/-- RTC: the page, then the PC under it. -/
theorem State.returnCall_spec (s : State) :
    let t := s.returnCall
    t.ppage = s.read8 s.sp ∧ t.pc = (s.setPpage (s.read8 s.sp)).read16 (s.sp + 1) ∧ t.regs = (s.setSp (s.sp + 3)).regs ∧
      t.ccr = s.ccr ∧ t.special = s.special ∧ s.bytesKept t [.ppage] ∧ t.stale = [] := by
  have hsp : s.sp + 1#16 + 2#16 = s.sp + 3#16 := BitVec.add_assoc _ _ _
  have hbus : s.returnCall.bus = (s.setPpage (s.read8 s.sp)).bus := rfl
  have hregs : s.returnCall.regs = (s.setSp (s.sp + 3)).regs := by simp [State.returnCall, State.regs, hsp]
  refine ⟨rfl, rfl, hregs, by simp [State.returnCall], by simp [State.returnCall], fun l hl => ?_, rfl⟩
  rw [State.peek_of_bus hbus, State.peek_setPpage_other s _ (List.ne_of_not_mem_cons hl)]

theorem State.regsOnly_callTarget (s : State) (op : CallOp) : s.RegsOnly (s.callTarget op).2.2 := by
  cases op with
  | ext a pg => exact s.regsOnly_refl
  | idx xb pg => exact s.regsOnly_indexed xb
  | ind xb =>
    have mode := s.regsOnly_indexed xb
    rwa [← s.pointerAddress_snd xb] at mode

/-- CALL from the state its addressing mode leaves, in terms of the state before. -/
theorem State.callSubroutine_spec {s s1 : State} {op : CallOp} {target : Word} {page : Byte}
    (h : s.callTarget op = (target, page, s1)) :
    let t := s.callSubroutine op
    t.pc = target ∧ (t.a, t.b, t.x, t.y) = (s1.a, s1.b, s1.x, s1.y) ∧ t.sp = s1.sp - 3 ∧ t.ccr = s.ccr ∧
      t.special = s.special ∧ t.stale = [] ∧
      (s1.plain (s1.sp - 3) 3 → t.ppage = page ∧ t.read16 (s1.sp - 2) = s.pc ∧ t.read8 (s1.sp - 3) = s.ppage ∧
        s.bytesKept t (.ppage :: s1.locsFrom (s1.sp - 3) 3)) := by
  have mode : s.RegsOnly s1 := by
    have target_mode := s.regsOnly_callTarget op
    rwa [h] at target_mode
  have hppage : s1.ppage = s.ppage := State.peek_of_bus mode.bus .ppage
  obtain ⟨hpc, hregs, hsp, hccr, hspecial, hstale⟩ := State.callSubroutine_regs h
  refine ⟨hpc, hregs, hsp, hccr.trans mode.ccr, hspecial.trans mode.special, hstale, fun hp => ?_⟩
  obtain ⟨hpage, hreturn, hold, hkept⟩ := State.callSubroutine_plain h hp
  exact ⟨hpage, hreturn.trans mode.pc, hold.trans hppage,
    fun l hl => (hkept l hl).trans (State.peek_of_bus mode.bus l)⟩

/-- Settles O50: CALL by `State.callSubroutine_spec`, where the record of an indirect form is read after its addressing
mode, which changes no byte; RTC by `State.returnCall_spec`. -/
theorem callAndReturn : Obligations.CallAndReturn := by
  refine ⟨fun s op => ⟨_, rfl, State.callSubroutine_spec ?_⟩, fun s => ⟨_, rfl, s.returnCall_spec⟩⟩
  rcases op with ⟨a, pg⟩ | ⟨xb, pg⟩ | xb
  · rfl
  · rfl
  · cases xb
    case auto r post n => cases r <;> rfl
    all_goals rfl

/-! ## Calls and returns together -/

/-- RTS after a push of the return address into plain memory, the PC being anywhere. -/
theorem State.returnSubroutine_push16 {s : State} (h : s.plain (s.sp - 2) 2) (v target pc : Word) :
    let r := (((s.push16 v).jump target).setPc pc).returnSubroutine
    r.pc = v ∧ r.regs = s.regs ∧ r.ccr = s.ccr ∧ r.ppage = s.ppage := by
  have fixed1 : s.fixedRam (s.sp - 1#16) := h.below (j := 1) (by decide) (by decide) (by decide)
  have fixed2 : s.fixedRam (s.sp - 2#16) := h.below (j := 2) (by decide) (by decide) (by decide)
  have second : s.sp - 2#16 + 1#16 = s.sp - 1#16 := word_sub_add _ _ _
  have hword : (s.push16 v).read16 (s.sp - 2#16) = v := by
    have first : s.ram (s.sp - 2#16 + 1#16) := by rw [second]; exact fixed1.1
    rw [State.read16_of_bus (s.push16_bus v)]
    exact (State.reads_after_write16 fixed2.1 first v).1
  have hppage : (s.push16 v).ppage = s.ppage := by
    rw [← State.peek_ppage, ← State.peek_ppage]
    exact State.push16_kept rfl second fixed2.1 v fixed2.locate_ne_ppage.symm fixed1.locate_ne_ppage.symm
  have hbus : (((s.push16 v).jump target).setPc pc).bus = (s.push16 v).bus := by simp
  have hsp : s.sp - 2#16 + 2#16 = s.sp := BitVec.sub_add_cancel _ _
  refine ⟨?_, ?_, ?_, ?_⟩
  · simp only [State.returnSubroutine, State.jump_pc, State.top16, State.read16_of_bus hbus, State.setPc_sp,
      State.jump_sp, State.push16_sp, hword]
  · simp [State.returnSubroutine, State.regs, hsp]
  · simp [State.returnSubroutine]
  · simp [State.returnSubroutine, hppage]

/-- RTC with its three bytes in plain memory: the page it pulls does not decide where the return address is read. -/
theorem State.returnCall_plain {s : State} {top : Word} (hsp : s.sp = top - 3) (h2 : s.fixedRam (top - 2#16))
    (h1 : s.fixedRam (top - 1#16)) :
    let r := s.returnCall
    r.pc = s.read16 (top - 2) ∧ r.regs = (s.setSp top).regs ∧ r.ccr = s.ccr ∧ r.ppage = s.read8 (top - 3) := by
  have third : top - 3#16 + 1#16 = top - 2#16 := word_sub_add _ _ _
  have second : top - 2#16 + 1#16 = top - 1#16 := word_sub_add _ _ _
  have back : top - 3#16 + 3#16 = top := BitVec.sub_add_cancel _ _
  obtain ⟨hpage, hpc, hregs, hccr, -⟩ := s.returnCall_spec
  rw [hsp] at hpage hpc hregs
  have above : s.fixedRam (top - 2#16 + 1#16) := by rwa [second]
  have hword := h2.read16_setPpage above (s.read8 (top - 3))
  rw [← third] at hword
  exact ⟨hpc.trans (hword.trans (congrArg s.read16 third)),
    hregs.trans (congrArg (fun p => (s.setSp p).regs) back), hccr, hpage⟩

/-- RTC after CALL with the stack in plain memory, the PC being anywhere. -/
theorem State.returnCall_callSubroutine {s s1 : State} {op : CallOp} (hs1 : (s.callTarget op).2.2 = s1)
    (h : s1.plain (s1.sp - 3) 3) (pc : Word) :
    let r := ((s.callSubroutine op).setPc pc).returnCall
    r.pc = s.pc ∧ r.regs = s1.regs ∧ r.ccr = s.ccr ∧ r.ppage = s.ppage := by
  have htarget : s.callTarget op = ((s.callTarget op).1, (s.callTarget op).2.1, s1) := by rw [← hs1]
  have mode : s.RegsOnly s1 := hs1 ▸ s.regsOnly_callTarget op
  obtain ⟨-, hregs, hsp, hccr, hspecial, -, hplain⟩ := State.callSubroutine_spec htarget
  obtain ⟨-, hreturn, hold, -⟩ := hplain h
  generalize s.callSubroutine op = t at *
  have hcfg : (t.setPc pc).cfg = s1.cfg := (congrArg Prod.fst hspecial).trans (congrArg Prod.fst mode.special).symm
  have hbus : (t.setPc pc).bus = t.bus := State.setPc_bus t pc
  have fixed {j : Nat} (h0 : 0 < j) (hj : j ≤ 3) : (t.setPc pc).fixedRam (s1.sp - BitVec.ofNat 16 j) :=
    (h.below (by decide) h0 hj).of_cfg hcfg
  obtain ⟨hpc, hall, hflags, hpage⟩ := State.returnCall_plain (s := t.setPc pc) hsp
    (fixed (j := 2) (by decide) (by decide)) (fixed (j := 1) (by decide) (by decide))
  rw [State.read16_of_bus hbus, hreturn] at hpc
  rw [State.read8_of_bus hbus, hold] at hpage
  refine ⟨hpc, hall.trans ?_, hflags.trans hccr, hpage⟩
  simp only [Prod.mk.injEq] at hregs
  obtain ⟨ha, hb, hx, hy⟩ := hregs
  simp [State.regs, ha, hb, hx, hy]

/-- Settles O51: each call leaves what its return pulls. -/
theorem subroutinesReturn : Obligations.SubroutinesReturn := by
  intro s t pc comesBack
  have rts {s1 : State} {call : Instr} {target : Word} (mode : s.RegsOnly s1)
      (hcall : exec call s = .next ((s1.push16 s.pc).jump target)) : comesBack s1 call .rts 2 := by
    intro hplain ht
    cases hcall.symm.trans ht
    obtain ⟨hpc, hregs, hccr, hppage⟩ := State.returnSubroutine_push16 hplain s.pc target pc
    exact ⟨_, rfl, hpc, hregs, hccr.trans mode.ccr, hppage.trans (State.peek_of_bus mode.bus .ppage)⟩
  have rtc {s1 : State} {op : CallOp} (hs1 : (s.callTarget op).2.2 = s1) : comesBack s1 (.call op) .rtc 3 := by
    intro hplain ht
    cases ht
    exact ⟨_, rfl, State.returnCall_callSubroutine hs1 hplain pc⟩
  exact ⟨fun rel => rts s.regsOnly_refl rfl,
    fun op => rts (State.regsOnly_of_modeOnly (s.ea_modeOnly op)) (next_congr (s.jumpSubroutine_eq op)),
    fun a pg => rtc rfl, fun xb pg => rtc rfl, fun xb => rtc (s.pointerAddress_snd xb)⟩

end Sys2Proof.Machine
end

section
/-!
SUPPORT. RTI undoes an entry (47_jump_call_interrupt.md R541; 60_exceptions.md R621, R622, R640 to R643;
45_fuzzy_minmax_mac_table.md R478): the frame still read in the handler's state, the status register written back as it
was, and, inside a WAV, the sums found again above the frame.
-/

namespace Sys2Proof.Machine

/-! ## The status register written back (R200, R201) -/

theorem Ccr.ofByte_toByte (f : Ccr) : Ccr.ofByte f.toByte = f := by
  obtain ⟨s, x, h, i, n, z, v, c⟩ := f
  decide +revert

/-- The handler has X set where it was set, so that the write gives it back. -/
theorem writtenCcr_toByte {old f : Ccr} (hx : f.x = true → old.x = true) : writtenCcr false old f.toByte = f := by
  have keeps : (old.x && f.x) = f.x := Bool.and_eq_right_iff_imp.mpr hx
  simp only [writtenCcr, Ccr.ofByte_toByte, keeps, Bool.false_eq_true, if_false]

theorem Ccrh.toByte_bits (f : Ccrh) : f.toByte.getLsbD 7 = f.u ∧ f.toByte.extractLsb' 0 3 = f.ipl := by
  obtain ⟨u, ipl⟩ := f
  decide +revert

/-- A version without U has none to give back (R26). -/
theorem writtenCcrh_toByte {v : Version} {f : Ccrh} (hv : v.isX = true) (hu : v.hasUser = false → f.u = false)
    (old : Ccrh) : writtenCcrh v false old f.toByte = f := by
  obtain ⟨hbit, hipl⟩ := f.toByte_bits
  have user : (v.hasUser && f.u) = f.u := by
    cases h : v.hasUser with
    | true => rfl
    | false => rw [hu h]; rfl
  simp only [writtenCcrh, hbit, hipl, user, hv, Bool.false_eq_true, if_false, if_true]

/-! ## A return with the frame of an entry (R541, R622) -/

theorem State.read8_of_read16 {s : State} {p : Word} {h l : Byte} (e : s.read16 p = joinBytes h l) :
    s.read8 p = h ∧ s.read8 (p + 1#16) = l := by
  have high := congrArg hiByte e
  have low := congrArg loByte e
  rw [State.read16, hiByte_join, hiByte_join] at high
  rw [State.read16, loByte_join, loByte_join] at low
  exact ⟨high, low⟩

/-- RTI with the frame of `s` on the stack gives `s` back, and leaves memory and a WAV in progress alone. -/
theorem State.returnFromException_of_frame {s u : State} {rtn : Word} (hcfg : u.cfg = s.cfg)
    (hsp : u.sp = s.sp - BitVec.ofNat 16 s.frameSize) (hframe : s.holdsFrame u u.sp rtn) (huser : u.userState = false)
    (hx : s.ccr.x = true → u.ccr.x = true) (hu : s.cfg.version.hasUser = false → s.ccrh.u = false) :
    let r := u.returnFromException
    r.pc = rtn ∧ r.regs = s.regs ∧ r.ccr = s.ccr ∧ (s.cfg.version.isX = true → r.ccrh = s.ccrh) ∧ r.bus = u.bus ∧
      r.wav = u.wav := by
  obtain ⟨hccr, hccrh, hb, ha, hrx, hry, hpc, hrsp, hspecial, hbus⟩ := u.returnFromException_spec
  obtain ⟨hstatus, hba, hfx, hfy, hrtn⟩ := hframe
  obtain ⟨hfb, hfa⟩ := State.read8_of_read16 hba
  have hwav : u.returnFromException.wav = u.wav := by
    simp only [State.special, Prod.mk.injEq] at hspecial
    obtain ⟨-, -, -, -, -, -, -, hwav, -⟩ := hspecial
    exact hwav
  have hup : (if u.cfg.version.isX then u.sp + 2#16 else u.sp + 1#16) =
      u.sp + if u.cfg.version.isX then 2#16 else 1#16 := (apply_ite (u.sp + ·) _ _ _).symm
  rw [hup, hcfg] at hb ha hrx hry hpc hrsp
  rw [hcfg] at hccr hccrh
  have hback : u.sp + (if s.cfg.version.isX then 2#16 else 1#16) + 8#16 = s.sp := by
    rw [hsp, State.frameSize]
    cases s.cfg.version.isX <;> exact (BitVec.add_assoc _ _ _).trans (BitVec.sub_add_cancel _ _)
  have hregs : u.returnFromException.regs = s.regs := by
    simp only [State.regs, ha, hfa, hb, hfb, hrx, hfx, hry, hfy, hrsp, hback]
  refine ⟨hpc.trans hrtn, hregs, ?_, fun hv => ?_, hbus, hwav⟩
  · rw [hccr]
    split
    · next hv =>
      rw [if_pos hv] at hstatus
      rw [hstatus, State.writeCcrw_ccr, huser, State.ccrw, loByte_join, State.ccrByte, writtenCcr_toByte hx]
    · next hv =>
      rw [if_neg hv] at hstatus
      rw [hstatus, State.writeCcr_ccr, huser, writtenCcr_toByte hx]
  · rw [if_pos hv] at hccrh hstatus
    rw [hccrh, hstatus, State.writeCcrw_ccrh, huser, hcfg, State.ccrw, hiByte_join, State.ccrhByte,
      writtenCcrh_toByte hv hu]

/-! ## The frame in the handler's state -/

section
variable {s t u : State} {top rtn : Word}

theorem State.plain.of_cfg {n : Nat} (h : s.plain top n) (hc : t.cfg = s.cfg) : t.plain top n :=
  (t.plain_iff top n).mpr fun k hk => ((s.plain_iff top n).mp h k hk).of_cfg hc

theorem State.locsFrom_of_cfg {n : Nat} (h : s.plain top n) (hc : t.cfg = s.cfg) :
    t.locsFrom top n = s.locsFrom top n :=
  List.map_congr_left fun k hk => ((s.plain_iff top n).mp h k (List.mem_range.mp hk)).locate_of_cfg hc

/-- The bytes of a plain stretch read alike where their locations hold the same. -/
theorem State.plain.read8_eq {n : Nat} (h : s.plain top n) (ht : t.cfg = s.cfg) (hu : u.cfg = s.cfg)
    (hp : ∀ l ∈ s.locsFrom top n, u.peek l = t.peek l) {k : Nat} (hk : k < n) :
    u.read8 (top + BitVec.ofNat 16 k) = t.read8 (top + BitVec.ofNat 16 k) :=
  ((s.plain_iff top n).mp h k hk).read8_eq ht hu (hp _ (List.mem_map.mpr ⟨k, List.mem_range.mpr hk, rfl⟩))

/-- A frame is decided by the bytes of its stretch. -/
theorem State.holdsFrame_congr
    (h : ∀ k < s.frameSize, u.read8 (top + BitVec.ofNat 16 k) = t.read8 (top + BitVec.ofNat 16 k))
    (hf : s.holdsFrame t top rtn) : s.holdsFrame u top rtn := by
  have word {k : Nat} (hk : k + 1 < s.frameSize) :
      u.read16 (top + BitVec.ofNat 16 k) = t.read16 (top + BitVec.ofNat 16 k) := by
    have next : top + BitVec.ofNat 16 k + 1#16 = top + BitVec.ofNat 16 (k + 1) := by
      rw [BitVec.add_assoc, BitVec.ofNat_add]
    rw [State.read16, State.read16, next, h k (Nat.lt_of_succ_lt hk), h (k + 1) hk]
  unfold State.holdsFrame at hf ⊢
  cases hv : s.cfg.version.isX with
  | true =>
    have size : s.frameSize = 10 := if_pos hv
    rw [size] at word
    have first : u.read16 top = t.read16 top := by simpa using word (k := 0) (by decide)
    simp only [hv, if_true, BitVec.add_assoc, BitVec.reduceAdd] at hf ⊢
    rwa [first, word (k := 2) (by decide), word (k := 4) (by decide), word (k := 6) (by decide),
      word (k := 8) (by decide)]
  | false =>
    have size : s.frameSize = 9 := if_neg (by simp [hv])
    rw [size] at word h
    have first : u.read8 top = t.read8 top := by simpa using h 0 (by decide)
    simp only [hv, Bool.false_eq_true, if_false, BitVec.add_assoc, BitVec.reduceAdd] at hf ⊢
    rwa [first, word (k := 1) (by decide), word (k := 3) (by decide), word (k := 5) (by decide),
      word (k := 7) (by decide)]

/-- RTI undoes an entry: in the handler's state the frame still reads as it was stacked. -/
theorem State.returnFromException_of_enter {vec : Byte} {kind : EntryKind}
    (hplain : s.plain (s.sp - BitVec.ofNat 16 s.frameSize) s.frameSize)
    (hcfg : u.cfg = (s.enter vec rtn kind).cfg) (hsp : u.sp = (s.enter vec rtn kind).sp)
    (hccrh : u.ccrh.u = (s.enter vec rtn kind).ccrh.u) (hx : s.ccr.x = true → u.ccr.x = true)
    (hkept : ∀ l ∈ s.locsFrom (s.sp - BitVec.ofNat 16 s.frameSize) s.frameSize,
      u.peek l = (s.enter vec rtn kind).peek l)
    (hu : s.cfg.version.hasUser = false → s.ccrh.u = false) :
    let r := u.returnFromException
    r.pc = rtn ∧ r.regs = s.regs ∧ r.ccr = s.ccr ∧ (s.cfg.version.isX = true → r.ccrh = s.ccrh) ∧ r.bus = u.bus ∧
      r.wav = u.wav := by
  have same : (s.enter vec rtn kind).cfg = s.cfg := by simp [State.enter]
  obtain ⟨-, hentered, hstacked⟩ := s.enter_entered vec rtn kind
  obtain ⟨hframe, -⟩ := hstacked hplain
  have htop : u.sp = s.sp - BitVec.ofNat 16 s.frameSize := hsp.trans hentered
  have huser : u.userState = false := by
    rw [State.userState, hccrh, hcfg, same, State.enter, State.startHandler_ccrh, entryCcrh_eq, State.stackFrame_cfg]
    cases s.cfg.version.hasUser <;> simp
  refine State.returnFromException_of_frame (hcfg.trans same) htop ?_ huser hx hu
  rw [htop]
  exact State.holdsFrame_congr (fun k hk => hplain.read8_eq same (hcfg.trans same) hkept hk) hframe

end

/-! ## The sums of an interrupted WAV (R478) -/

/-- The three words of the sums in plain memory, below the SP of before. -/
theorem State.withSumsStacked_plain {s : State} {n : Nat} (h : s.plain (s.sp - BitVec.ofNat 16 n) n) (hn : n < 65536)
    (h6 : 6 ≤ n) (w : WavSums) :
    let t := s.withSumsStacked w
    t.read16 (s.sp - 6#16) = highWord w.sop ∧ t.read16 (s.sp - 4#16) = lowWord w.sop ∧
      t.read16 (s.sp - 2#16) = w.sow := by
  have ram {j : Nat} (h0 : 0 < j) (hj : j ≤ 6) := (h.below hn h0 (hj.trans h6)).1
  have above (j : Word) : s.sp - j + 1#16 = s.sp - (j - 1#16) := word_sub_add _ _ _
  have counted {a : Word} (ha : s.ram a) : (s.setB (s.b - 1#8)).ram a := State.ram_congr rfl rfl ha
  obtain ⟨l1, r1⟩ := State.push16_plain (t := s.setB (s.b - 1#8)) (base := s.sp) rfl (above 2#16) (by decide)
    (by decide) (counted (ram (j := 2) (by decide) (by decide))) (counted (ram (j := 1) (by decide) (by decide))) w.sow
  obtain ⟨l2, r2⟩ := State.push16_plain (t := (s.setB (s.b - 1#8)).push16 w.sow) (base := s.sp)
    (by simp [word_sub_sub]) (above 4#16) (by decide) (by decide)
    (State.ram_congr (by simp) (l1 _) (ram (j := 4) (by decide) (by decide)))
    (State.ram_congr (by simp) (l1 _) (ram (j := 3) (by decide) (by decide))) (lowWord w.sop)
  obtain ⟨-, r3⟩ := State.push16_plain (t := ((s.setB (s.b - 1#8)).push16 w.sow).push16 (lowWord w.sop)) (base := s.sp)
    (by simp [word_sub_sub]) (above 6#16) (by decide) (by decide)
    (State.ram_congr (by simp) ((l2 _).trans (l1 _)) (ram (j := 6) (by decide) (by decide)))
    (State.ram_congr (by simp) ((l2 _).trans (l1 _)) (ram (j := 5) (by decide) (by decide))) (highWord w.sop)
  have bytes (c : Word) (hc : c.toNat < 16) : (s.withSumsStacked w).read8 (s.sp - c) = _ :=
    (State.read8_of_bus rfl _).trans ((r3 c hc).trans (by rw [r2 c hc, r1 c hc]))
  simp [State.read16, above, bytes]

/-! ## One pair from two states -/

/-- A pair of the sums depends on the registers, the PC and the two bytes at X and Y. -/
theorem State.wavStep_congr {s t : State} (hregs : t.regs = s.regs) (hpc : t.pc = s.pc)
    (hx : t.read8 s.x = s.read8 s.x) (hy : t.read8 s.y = s.read8 s.y) (w : WavSums) :
    (t.wavStep w).pc = (s.wavStep w).pc ∧ (t.wavStep w).regs = (s.wavStep w).regs ∧
      (t.wavStep w).wav = (s.wavStep w).wav := by
  simp only [State.regs, Prod.mk.injEq] at hregs
  obtain ⟨ea, eb, ex, ey, esp⟩ := hregs
  have sums : t.sumsWith w = s.sumsWith w := by rw [State.sumsWith, State.sumsWith, ex, ey, hx, hy]
  by_cases hb : s.b = 0#8
  · rw [State.wavStep_last hb, State.wavStep_last (eb.trans hb), sums]
    simp [State.wavFinish, State.wavFlags, State.flags, State.nextPair, State.regs, hpc, esp]
  · rw [State.wavStep_next hb, State.wavStep_next (by rwa [eb]), sums]
    simp [State.wavFlags, State.flags, State.nextPair, State.regs, hpc, ea, eb, ex, ey, esp]

/-! ## RTI inside a WAV (R478) -/

/-- A place above a stretch does not lie in it, less than a block away. -/
theorem State.locate_above_not_mem {s t : State} (hc : t.cfg = s.cfg) (top : Word) {n d : Nat} (hn : n ≤ d)
    (hd : d < 16) :
    s.locate (top + BitVec.ofNat 16 d) ∉ t.locsFrom top n := by
  intro hmem
  obtain ⟨k, hk, hplace⟩ := List.mem_map.mp hmem
  have hless := List.mem_range.mp hk
  have near := State.locate_mod hc hplace
  simp only [BitVec.toNat_add, BitVec.toNat_ofNat] at near
  omega

theorem State.withSumsStacked_regs (s : State) (w : WavSums) :
    (s.withSumsStacked w).regs = (s.a, s.b - 1#8, s.x, s.y, s.sp - 6#16) ∧ (s.withSumsStacked w).pc = s.pc := by
  simp [State.withSumsStacked, State.regs, word_sub_sub]

section
variable {s u : State} {vec : Byte} {kind : EntryKind} {w : WavSums} {rtn : Word}

/-- The frame lies under the sums, in the stretch of both. -/
theorem State.frame_under_sums (hplain : s.plain (s.sp - BitVec.ofNat 16 (s.frameSize + 6)) (s.frameSize + 6))
    (w : WavSums) :
    let t := s.withSumsStacked w
    let top := t.sp - BitVec.ofNat 16 t.frameSize
    top = s.sp - BitVec.ofNat 16 (s.frameSize + 6) ∧ t.plain top t.frameSize ∧
      ∀ l ∈ t.locsFrom top t.frameSize, l ∈ s.locsFrom top (s.frameSize + 6) := by
  obtain ⟨-, -, hcfg⟩ := s.withSumsStacked_kept w
  have hsp : (s.withSumsStacked w).sp = s.sp - 6#16 := by simp [State.withSumsStacked, word_sub_sub]
  have hsize : (s.withSumsStacked w).frameSize = s.frameSize := State.frameSize_of_cfg hcfg
  have htop : s.sp - 6#16 - BitVec.ofNat 16 s.frameSize = s.sp - BitVec.ofNat 16 (s.frameSize + 6) := by
    rw [word_sub_sub, BitVec.ofNat_add, BitVec.add_comm]
  have frame : s.plain (s.sp - BitVec.ofNat 16 (s.frameSize + 6)) s.frameSize := fun k hk =>
    hplain k (Nat.lt_add_right 6 hk)
  intro t top
  have top_eq : top = s.sp - BitVec.ofNat 16 (s.frameSize + 6) := by
    simp only [top, t, hsp, hsize, htop]
  rw [top_eq, hsize]
  refine ⟨rfl, frame.of_cfg hcfg, fun l hl => ?_⟩
  rw [State.locsFrom_of_cfg frame hcfg] at hl
  obtain ⟨k, hk, rfl⟩ := List.mem_map.mp hl
  exact List.mem_map.mpr ⟨k, List.mem_range.mpr (Nat.lt_add_right 6 (List.mem_range.mp hk)), rfl⟩

/-- The words of the sums still read in the handler's state: an entry stacks its frame below them. -/
theorem State.read8_above_frame (hplain : s.plain (s.sp - BitVec.ofNat 16 (s.frameSize + 6)) (s.frameSize + 6))
    (hcfg : u.cfg = s.cfg)
    (hkept : ∀ l ∈ s.locsFrom (s.sp - BitVec.ofNat 16 (s.frameSize + 6)) (s.frameSize + 6),
      u.peek l = ((s.withSumsStacked w).enter vec rtn kind).peek l) {j : Nat} (h0 : 0 < j) (hj : j ≤ 6) :
    u.read8 (s.sp - BitVec.ofNat 16 j) = (s.withSumsStacked w).read8 (s.sp - BitVec.ofNat 16 j) := by
  have hsmall : s.frameSize ≤ 10 := by
    rw [State.frameSize]
    split <;> decide
  obtain ⟨-, -, hsums⟩ := s.withSumsStacked_kept w
  have hentry : ((s.withSumsStacked w).enter vec rtn kind).cfg = s.cfg := by simp [State.enter, hsums]
  have hsize : (s.withSumsStacked w).frameSize = s.frameSize := State.frameSize_of_cfg hsums
  obtain ⟨htop, hframe, -⟩ := State.frame_under_sums hplain w
  obtain ⟨-, -, hstacked⟩ := (s.withSumsStacked w).enter_entered vec rtn kind
  obtain ⟨-, hothers⟩ := hstacked hframe
  have hfixed : s.fixedRam (s.sp - BitVec.ofNat 16 j) := hplain.below (by omega) h0 (by omega)
  have habove : s.locate (s.sp - BitVec.ofNat 16 j) ∉ (s.withSumsStacked w).locsFrom
      ((s.withSumsStacked w).sp - BitVec.ofNat 16 (s.withSumsStacked w).frameSize) (s.withSumsStacked w).frameSize := by
    rw [htop, hsize, ← word_below s.sp (n := s.frameSize + 6) (j := j) (by omega) (by omega)]
    exact State.locate_above_not_mem hsums _ (by omega) (by omega)
  calc u.read8 (s.sp - BitVec.ofNat 16 j)
      = ((s.withSumsStacked w).enter vec rtn kind).read8 (s.sp - BitVec.ofNat 16 j) :=
        hfixed.read8_eq hentry hcfg (hkept _ (s.mem_locsFrom_below s.sp (by omega) h0 (by omega)))
    _ = (s.withSumsStacked w).read8 (s.sp - BitVec.ofNat 16 j) := hfixed.read8_eq hsums hentry (hothers _ habove)

/-- The three words of the sums read back in the handler's state. -/
theorem State.sums_above_frame (hplain : s.plain (s.sp - BitVec.ofNat 16 (s.frameSize + 6)) (s.frameSize + 6))
    (hcfg : u.cfg = s.cfg)
    (hkept : ∀ l ∈ s.locsFrom (s.sp - BitVec.ofNat 16 (s.frameSize + 6)) (s.frameSize + 6),
      u.peek l = ((s.withSumsStacked w).enter vec rtn kind).peek l) :
    u.read16 (s.sp - 6#16) = highWord w.sop ∧ u.read16 (s.sp - 4#16) = lowWord w.sop ∧
      u.read16 (s.sp - 2#16) = w.sow := by
  have hsize : s.frameSize + 6 < 65536 := by
    rw [State.frameSize]
    split <;> decide
  have word {j : Nat} (h0 : 0 < j) (hj : j + 1 ≤ 6) :
      u.read16 (s.sp - BitVec.ofNat 16 (j + 1)) = (s.withSumsStacked w).read16 (s.sp - BitVec.ofNat 16 (j + 1)) := by
    have next : s.sp - BitVec.ofNat 16 (j + 1) + 1#16 = s.sp - BitVec.ofNat 16 j := by
      rw [word_sub_add, BitVec.ofNat_add, BitVec.add_sub_cancel]
    rw [State.read16, State.read16, next, State.read8_above_frame hplain hcfg hkept h0 (Nat.le_of_succ_le hj),
      State.read8_above_frame hplain hcfg hkept (Nat.succ_pos j) hj]
  obtain ⟨high, low, sow⟩ := State.withSumsStacked_plain hplain hsize (Nat.le_add_left 6 _) w
  exact ⟨(word (j := 5) (by decide) (by decide)).trans high, (word (j := 3) (by decide) (by decide)).trans low,
    (word (j := 1) (by decide) (by decide)).trans sow⟩

end

theorem exec_wavr {s : State} (h : s.cfg.version.hasFuzzy = true) : exec .wavr s = .next s.wavResume :=
  next_congr (State.fuzzy_of_hasFuzzy h _)

/-- `3C` after the return takes the pending pair with the sums of before, as `3C` would have done without the entry. -/
theorem State.wavResume_after_return {s r : State} {w : WavSums} (hwav : s.wav = some w) (hnone : r.wav = none)
    (hregs : r.regs = (s.withSumsStacked w).regs) (hhigh : r.read16 (s.sp - 6#16) = highWord w.sop)
    (hlow : r.read16 (s.sp - 4#16) = lowWord w.sop) (hsow : r.read16 (s.sp - 2#16) = w.sow)
    (hx : r.read8 s.x = s.read8 s.x) (hy : r.read8 s.y = s.read8 s.y) (next : Word) :
    let p := (r.setPc next).wavResume
    let q := (s.setPc next).wavResume
    p.pc = q.pc ∧ p.regs = q.regs ∧ p.wav = q.wav := by
  rw [(s.withSumsStacked_regs w).1] at hregs
  simp only [State.regs, Prod.mk.injEq] at hregs
  obtain ⟨ha, hb, hrx, hry, hsp⟩ := hregs
  have hbus : (r.setPc next).bus = r.bus := State.setPc_bus r next
  have hsp' : (r.setPc next).sp = s.sp - 6#16 := hsp
  have up2 : s.sp - 6#16 + 2 = s.sp - 4#16 := word_sub_add _ _ _
  have up4 : s.sp - 6#16 + 4 = s.sp - 2#16 := word_sub_add _ _ _
  have up6 : s.sp - 6#16 + 6 = s.sp := BitVec.sub_add_cancel _ _
  have pulled : (r.setPc next).wavResume = ((r.setPc next).setSp s.sp).wavStep w := by
    rw [State.wavResume_pulled (by simpa using hnone), hsp', up2, up4, up6]
    simp only [State.read16_of_bus hbus, hhigh, hlow, hsow, highWord_append_lowWord]
  rw [pulled, State.wavResume_kept (s := s.setPc next) hwav]
  have counted : ((r.setPc next).setSp s.sp).regs = (s.setPc next).wavCount.regs := by
    simp [State.regs, State.wavCount, ha, hb, hrx, hry]
  exact State.wavStep_congr counted rfl hx hy w

/-- Settles O55: the frame is read back by `State.returnFromException_of_enter`; inside a WAV the entry is one from the
state with the sums on the stack, and `3C` pulls them by `State.wavResume_after_return`. -/
theorem returnUndoesEntry : Obligations.ReturnUndoesEntry := by
  refine ⟨fun s u vec kind h => ?entry, fun s u vec kind w next hwav h hfuzzy hnone hx hy => ?inWav⟩
  case entry =>
    obtain ⟨⟨-, hu, -⟩, hplain, hcfg, hsp, hccrh, hxirq, hkept⟩ := h
    obtain ⟨hpc, hregs, hccr, hlevel, -⟩ := State.returnFromException_of_enter hplain hcfg hsp hccrh hxirq hkept hu
    exact ⟨_, rfl, hpc, hregs, hccr, hlevel⟩
  case inWav =>
    obtain ⟨⟨-, hu, -⟩, hplain, hcfg, hsp, hccrh, hxirq, hkept⟩ := h
    obtain ⟨hsumsCcr, hsumsCcrh, hsumsCfg⟩ := s.withSumsStacked_kept w
    have hsame : u.cfg = s.cfg := hcfg.trans (by simp [State.enter, hsumsCfg])
    obtain ⟨htop, hframe, hwithin⟩ := State.frame_under_sums hplain w
    rw [← htop] at hkept
    obtain ⟨hpc, hregs, -, -, hbus, hrwav⟩ := State.returnFromException_of_enter hframe hcfg hsp hccrh
      (by rwa [hsumsCcr]) (fun l hl => hkept l (hwithin l hl)) (by rwa [hsumsCcrh, hsumsCfg])
    rw [htop] at hkept
    obtain ⟨hhigh, hlow, hsow⟩ := State.sums_above_frame hplain hsame hkept
    rw [← State.read16_of_bus hbus] at hhigh hlow hsow
    rw [← State.read8_of_bus hbus] at hx hy
    have hcfgBack : u.returnFromException.cfg = s.cfg := (congrArg Prod.fst hbus).trans hsame
    have resumes := State.wavResume_after_return hwav (hrwav.trans hnone) hregs hhigh hlow hsow hx hy next
    exact ⟨_, _, _, rfl, hpc.trans (s.withSumsStacked_regs w).2,
      exec_wavr (by rwa [State.setPc_cfg, hcfgBack]), exec_wavr hfuzzy, resumes⟩

end Sys2Proof.Machine
end

section
/-!
SUPPORT. What every instruction leaves of what the next boundary looks at (60_exceptions.md R648, R651;
70_reset_and_hazards.md R692): it answers, it keeps the parameters, the inputs and the counter, and it starts the inhibit
where it clears I.
-/

namespace Sys2Proof.Machine

/-! ## Quiet updates -/

/-- What the inhibit turns on, and what no instruction changes. -/
def State.timing (s : State) : Cfg × List Env × Nat × Bool × Bool := (s.cfg, s.inputs, s.tick, s.iDelay, s.ccr.i)

/-- From `s` to `t` parameters, inputs, counter, inhibit and I stay. -/
def State.Quiet (s t : State) : Prop := t.timing = s.timing

theorem State.quiet_refl (s : State) : s.Quiet s := rfl

theorem State.Quiet.trans {s t u : State} (h : s.Quiet t) (g : t.Quiet u) : s.Quiet u := Eq.trans g h

theorem State.quiet_of_special {s t : State} (h : t.special = s.special) (hi : t.ccr = s.ccr) : s.Quiet t := by
  simp only [State.special, Prod.mk.injEq] at h
  simp [State.Quiet, State.timing, *]

theorem State.quiet_of_modeOnly {s t : State} {r : Option AutoReg} (h : s.modeOnly t r) : s.Quiet t :=
  State.quiet_of_special (State.modeOnly_special h) (State.modeOnly_ccr h)

theorem State.quiet_indexedFrom (s : State) (pc : Word) (xb : Indexed) : s.Quiet (s.indexedFrom pc xb).2 :=
  State.quiet_of_modeOnly (s.indexedFrom_modeOnly pc xb)

theorem State.quiet_indexed (s : State) (xb : Indexed) : s.Quiet (s.indexed xb).2 := s.quiet_indexedFrom s.pc xb

theorem State.quiet_ea (s : State) (op : DirExtIdx) : s.Quiet (s.ea op).2 := State.quiet_of_modeOnly (s.ea_modeOnly op)

theorem State.quiet_eaExtIdx (s : State) (op : ExtIdx) : s.Quiet (s.eaExtIdx op).2 :=
  State.quiet_of_modeOnly (s.eaExtIdx_modeOnly op)

theorem State.quiet_src8 (s : State) (op : Src8) : s.Quiet (s.src8 op).2 := State.quiet_of_modeOnly (s.src8_modeOnly op)

theorem State.quiet_src16 (s : State) (op : Src16) : s.Quiet (s.src16 op).2 :=
  State.quiet_of_modeOnly (s.src16_modeOnly op)

theorem State.quiet_moveAddresses {α : Type} (s : State) (m : Move α) : s.Quiet (s.moveAddresses m).2.2 := by
  cases m
  case immExt v d => exact s.quiet_refl
  case immIdx v d => exact s.quiet_indexed d
  case extExt a d => exact s.quiet_refl
  case extIdx a d => exact s.quiet_indexed d
  case idxExt x d => exact s.quiet_indexed x
  case idxIdx x d => exact (s.quiet_indexedFrom _ x).trans (State.quiet_indexed _ d)

theorem State.quiet_pointerAddress (s : State) (xb : Indexed) : s.Quiet (s.pointerAddress xb).2 := by
  rw [State.pointerAddress_snd]
  exact s.quiet_indexed xb

theorem State.quiet_callTarget (s : State) (op : CallOp) : s.Quiet (s.callTarget op).2.2 := by
  cases op
  case ext a pg => exact s.quiet_refl
  case idx xb pg => exact s.quiet_indexed xb
  case ind xb => exact s.quiet_pointerAddress xb

section
variable {s t : State} (h : s.Quiet t)
include h

/-- An update of registers, of flags other than I, or of the PC. -/
theorem State.Quiet.regs {u : State} (hu : u.timing = t.timing) : s.Quiet u := h.trans hu

theorem State.Quiet.setCcr {f : Ccr} (hf : f.i = t.ccr.i) : s.Quiet (t.setCcr f) :=
  h.regs (by simp [State.timing, hf])

theorem State.Quiet.setPpage (v : Byte) : s.Quiet (t.setPpage v) := h.regs rfl

theorem State.Quiet.jump (p : Word) : s.Quiet (t.jump p) := h.regs rfl

theorem State.Quiet.write8 (a : Word) (v : Byte) : s.Quiet (t.write8 a v) := h.regs (by simp [State.timing])

theorem State.Quiet.write16 (a v : Word) : s.Quiet (t.write16 a v) := h.regs (by simp [State.timing])

theorem State.Quiet.gwrite8 (p : BitVec 7) (a : Word) (v : Byte) : s.Quiet (t.gwrite8 p a v) :=
  h.regs (by simp [State.timing])

theorem State.Quiet.gwrite16 (a v : Word) : s.Quiet (t.gwrite16 a v) := h.regs (by simp [State.timing])

theorem State.Quiet.push8 (v : Byte) : s.Quiet (t.push8 v) := h.regs (by simp [State.timing])

theorem State.Quiet.push16 (v : Word) : s.Quiet (t.push16 v) := h.regs (by simp [State.timing])

theorem State.Quiet.setLoaded (r : AutoReg) (target : Option AutoReg) (v : Word) :
    s.Quiet (t.setLoaded r target v) := by
  obtain he | ⟨-, he⟩ := t.setLoaded_cases r target v
  · exact h.regs (by simp [he, State.timing])
  · rwa [he]

theorem State.Quiet.branchIf (taken : Bool) (offset : Word) : s.Quiet (t.branchIf taken offset) := by
  cases taken
  · exact h
  · exact h.regs rfl

theorem State.Quiet.consequent (a : Word) : s.Quiet (t.consequent a) := by
  unfold State.consequent
  split
  · exact h.write8 a t.a
  · exact h

theorem State.Quiet.revwSeparator : s.Quiet t.revwSeparator := by
  unfold State.revwSeparator
  split_ifs
  · exact h.regs rfl
  · exact h.regs rfl
  · exact h

end

theorem State.quiet_stackFrame (s : State) (rtn : Word) : s.Quiet (s.stackFrame rtn) :=
  State.quiet_of_special (by simp) (by simp)

theorem State.quiet_loop (s : State) (r : LoopReg) (delta : Int) (onZero : Bool) (off : BitVec 9) :
    s.Quiet (s.loop r delta onZero off) := by
  have count := s.regsOnly_loopCount r delta
  exact (State.quiet_of_special count.special count.ccr).branchIf _ _

theorem State.quiet_callSubroutine (s : State) (op : CallOp) : s.Quiet (s.callSubroutine op) := by
  have ht : s.Quiet (s.callTarget op).2.2 := s.quiet_callTarget op
  generalize hc : s.callTarget op = c at ht
  obtain ⟨target, page, t⟩ := c
  rw [State.callSubroutine_eq hc]
  split
  · exact (((ht.setPpage page).push16 t.pc).push8 t.ppage).jump target
  · exact (((ht.push16 t.pc).push8 t.ppage).setPpage page).jump target

theorem State.quiet_stepIndex (s : State) (r : AutoReg) (delta : Word) : s.Quiet (s.stepIndex r delta) := by
  have step := s.regsOnly_setAutoReg r (s.autoReg r + delta)
  exact (State.quiet_of_special step.special step.ccr).setCcr rfl

theorem State.quiet_div32 (s : State) : s.Quiet s.div32 := by
  simp only [State.div32]
  split_ifs <;> rfl

theorem State.quiet_div32Signed (s : State) : s.Quiet s.div32Signed := by
  simp only [State.div32Signed]
  split_ifs <;> rfl

theorem State.quiet_divFraction (s : State) : s.Quiet s.divFraction := by
  simp only [State.divFraction]
  split_ifs <;> rfl

theorem State.quiet_div16 (s : State) : s.Quiet s.div16 := by
  simp only [State.div16]
  split_ifs <;> rfl

theorem State.quiet_div16Signed (s : State) : s.Quiet s.div16Signed := by
  simp only [State.div16Signed]
  split_ifs <;> rfl

/-! ## The fuzzy instructions where a version has them (R471 to R478) -/

theorem State.quiet_membership (s : State) : s.Quiet s.membership := (s.quiet_refl.write8 _ _).regs rfl

theorem State.quiet_revElement (s : State) : s.Quiet s.revElement := by
  have hx : s.Quiet (s.setX (s.x + 1#16)) := rfl
  simp only [State.revElement]
  split_ifs
  · exact hx.regs rfl
  · exact hx.regs rfl
  · exact hx.regs rfl
  · exact (hx.consequent _).regs rfl
  · exact hx.regs rfl

theorem State.quiet_revwElement (s : State) : s.Quiet s.revwElement := by
  have hx : s.Quiet (s.setX (s.x + 2#16)) := rfl
  simp only [State.revwElement]
  split_ifs
  · exact hx.regs rfl
  · exact hx.revwSeparator.regs rfl
  · exact (hx.consequent _).regs rfl
  · exact hx.regs rfl

theorem State.quiet_wavStep (s : State) (w : WavSums) : s.Quiet (s.wavStep w) := by
  simp only [State.wavStep]
  split_ifs <;> rfl

theorem State.quiet_wavStart (s : State) : s.Quiet s.wavStart := s.wavCount.quiet_wavStep _

theorem State.quiet_wavResume (s : State) : s.Quiet s.wavResume := by
  unfold State.wavResume
  split
  · exact s.wavCount.quiet_wavStep _
  · exact State.quiet_wavStep (((s.drop 2).drop 2).drop 2) _

/-! ## The inhibit (R692) -/

/-- From `s` to `t` parameters, inputs and counter stay, and where no inhibit was left over there is one exactly if I has
been cleared. -/
structure State.Inhibits (s t : State) : Prop where
  cfg : t.cfg = s.cfg
  inputs : t.inputs = s.inputs
  tick : t.tick = s.tick
  inhibit : s.iDelay = false → t.iDelay = (s.ccr.i && !t.ccr.i)

theorem State.Quiet.fields {s t : State} (h : s.Quiet t) :
    t.cfg = s.cfg ∧ t.inputs = s.inputs ∧ t.tick = s.tick ∧ t.iDelay = s.iDelay ∧ t.ccr.i = s.ccr.i := by
  simpa only [State.Quiet, State.timing, Prod.mk.injEq] using h

theorem State.Quiet.inhibits {s t : State} (h : s.Quiet t) : s.Inhibits t := by
  obtain ⟨hcfg, hinputs, htick, hdelay, hi⟩ := h.fields
  exact ⟨hcfg, hinputs, htick, fun h0 => by rw [hdelay, hi, h0, Bool.and_not_self]⟩

theorem State.Quiet.then {s t u : State} (h : s.Quiet t) (g : t.Inhibits u) : s.Inhibits u := by
  obtain ⟨hcfg, hinputs, htick, hdelay, hi⟩ := h.fields
  exact ⟨g.cfg.trans hcfg, g.inputs.trans hinputs, g.tick.trans htick,
    fun h0 => by rw [g.inhibit (hdelay.trans h0), hi]⟩

theorem State.Inhibits.quiet {s t u : State} (h : s.Inhibits t) (g : t.Quiet u) : s.Inhibits u := by
  obtain ⟨hcfg, hinputs, htick, hdelay, hi⟩ := g.fields
  exact ⟨hcfg.trans h.cfg, hinputs.trans h.inputs, htick.trans h.tick,
    fun h0 => by rw [hdelay, hi, h.inhibit h0]⟩

theorem State.inhibits_writeCcr (s : State) (v : Byte) : s.Inhibits (s.writeCcr v) :=
  ⟨by simp, by simp, by simp, fun h => by simp [h]⟩

theorem State.inhibits_writeCcrw (s : State) (w : Word) : s.Inhibits (s.writeCcrw w) :=
  ⟨by simp, by simp, by simp, fun h => by simp [h]⟩

/-- A handler starts with I set and no inhibit. -/
theorem State.inhibits_enter (s : State) (vec : Byte) (rtn : Word) (kind : EntryKind) :
    s.Inhibits (s.enter vec rtn kind) :=
  ⟨by simp [State.enter], by simp [State.enter], by simp [State.enter], fun _ => by simp [State.enter, entryCcr_eq]⟩

theorem State.inhibits_systemCall (s : State) : s.Inhibits s.systemCall := by
  rw [State.systemCall_eq]
  exact s.inhibits_enter _ _ _

theorem State.inhibits_fuzzy {s : State} {f : State → State} (h : s.Quiet (f s)) : s.Inhibits (s.fuzzy f) := by
  unfold State.fuzzy
  split
  · exact h.inhibits
  · exact s.inhibits_enter _ _ _

theorem State.quiet_waitForInterrupt (s : State) : s.Quiet s.waitForInterrupt := by
  unfold State.waitForInterrupt
  split
  · exact s.quiet_refl
  · exact (s.quiet_stackFrame s.pc).regs rfl

theorem State.quiet_stopProcessing (s : State) : s.Quiet s.stopProcessing := by
  unfold State.stopProcessing
  split
  · exact s.quiet_refl
  · exact (s.quiet_stackFrame s.pc).regs rfl

theorem State.quiet_background (s : State) : s.Quiet s.background := by
  unfold State.background
  split <;> rfl

/-! ## Transfers and exchanges (R190 to R204) -/

/-- A byte slot whose bit 4 is I. -/
def ByteSlot.HoldsMask (p : ByteSlot) : Prop := p = .ccr ∨ p = .low .ccrw

/-- A CCR write that offers I its own value leaves it, whatever the privilege. -/
theorem writtenCcr_i {old : Ccr} {v : Byte} (h : v.getLsbD 4 = old.i) (user : Bool) :
    (writtenCcr user old v).i = old.i := by
  cases user
  · exact h
  · rfl

theorem State.quiet_writeCcr {s : State} {v : Byte} (h : v.getLsbD 4 = s.ccr.i) : s.Quiet (s.writeCcr v) := by
  simp [State.Quiet, State.timing, writtenCcr_i h]

theorem State.quiet_writeCcrw {s : State} {w : Word} (h : (loByte w).getLsbD 4 = s.ccr.i) :
    s.Quiet (s.writeCcrw w) := by
  simp [State.Quiet, State.timing, writtenCcr_i h]

/-- I is bit 4 of the CCR byte (R25). -/
theorem State.ccrByte_i (s : State) : s.ccrByte.getLsbD 4 = s.ccr.i := by
  simp only [State.ccrByte, Ccr.toByte, BitVec.getLsbD_append]
  simp

theorem State.loByte_ccrw (s : State) : loByte s.ccrw = s.ccrByte := loByte_join _ _

theorem State.inhibits_setWordSlot (s : State) (r : WordSlot) (v : Word) : s.Inhibits (s.setWordSlot r v) := by
  cases r
  case ccrw => exact s.inhibits_writeCcrw v
  all_goals exact State.Quiet.inhibits rfl

theorem State.inhibits_setByteSlot (s : State) (p : ByteSlot) (v : Byte) : s.Inhibits (s.setByteSlot p v) := by
  cases p
  case ccr => exact s.inhibits_writeCcr v
  case high r | low r => exact s.inhibits_setWordSlot r _
  all_goals exact State.Quiet.inhibits rfl

/-- A write to a word slot is quiet unless it offers I another value. -/
theorem State.quiet_setWordSlot {s : State} {r : WordSlot} {v : Word}
    (h : r = .ccrw → (loByte v).getLsbD 4 = s.ccr.i) : s.Quiet (s.setWordSlot r v) := by
  cases r
  case ccrw => exact State.quiet_writeCcrw (h rfl)
  all_goals rfl

/-- Likewise a write to a byte slot. -/
theorem State.quiet_setByteSlot {s : State} {p : ByteSlot} {v : Byte} (h : p.HoldsMask → v.getLsbD 4 = s.ccr.i) :
    s.Quiet (s.setByteSlot p v) := by
  cases p
  case ccr => exact State.quiet_writeCcr (h (.inl rfl))
  case high r =>
    refine State.quiet_setWordSlot fun hr => ?_
    subst hr
    rw [loByte_join, State.wordSlot, State.loByte_ccrw, State.ccrByte_i]
  case low r =>
    refine State.quiet_setWordSlot fun hr => ?_
    subst hr
    rw [loByte_join, h (.inr rfl)]
  all_goals rfl

/-- Such a slot reads I. -/
theorem State.byteSlot_mask (s : State) {p : ByteSlot} (h : p.HoldsMask) : (s.byteSlot p).getLsbD 4 = s.ccr.i := by
  obtain rfl | rfl := h
  · exact s.ccrByte_i
  · rw [State.byteSlot, State.wordSlot, State.loByte_ccrw, State.ccrByte_i]

theorem State.inhibits_transfer (s : State) (src dst : Slot) : s.Inhibits (s.transfer src dst) := by
  cases src <;> cases dst
  case byte.byte | word.byte => exact s.inhibits_setByteSlot _ _
  case byte.word | word.word => exact s.inhibits_setWordSlot _ _

theorem State.inhibits_tfr (s : State) (hi : Bool) (src dst : XReg) : s.Inhibits (s.tfr hi src dst) := by
  unfold State.tfr
  split <;> exact s.inhibits_transfer _ _

theorem State.inhibits_sex (s : State) (hi : Bool) (src dst : XReg) : s.Inhibits (s.sex hi src dst) := by
  unfold State.sex
  split_ifs
  · exact State.Quiet.inhibits rfl
  · exact State.Quiet.inhibits rfl
  · exact s.inhibits_tfr hi src dst

/-- The two writes of an exchange: where the second slot holds I, the first write offers I the value it has. -/
theorem State.inhibits_then_setByteSlot {s t : State} {p : ByteSlot} (h : s.Inhibits t)
    (hq : p.HoldsMask → s.Quiet t) (v : Byte) : s.Inhibits (t.setByteSlot p v) := by
  by_cases hp : p.HoldsMask
  · exact (hq hp).then (t.inhibits_setByteSlot p v)
  · exact h.quiet (State.quiet_setByteSlot fun hm => absurd hm hp)

theorem State.inhibits_exchangeBytes (s : State) (p q : ByteSlot) : s.Inhibits (s.exchangeBytes p q) :=
  State.inhibits_then_setByteSlot (s.inhibits_setByteSlot q _)
    (fun hp => State.quiet_setByteSlot fun _ => s.byteSlot_mask hp) _

theorem State.inhibits_exchangeWords (s : State) (p q : WordSlot) : s.Inhibits (s.exchangeWords p q) := by
  by_cases hp : p = .ccrw
  · subst hp
    have own : s.Quiet (s.setWordSlot q (s.wordSlot .ccrw)) :=
      State.quiet_setWordSlot fun _ => s.byteSlot_mask (p := .low .ccrw) (.inr rfl)
    exact own.then (State.inhibits_setWordSlot _ _ _)
  · exact (s.inhibits_setWordSlot q _).quiet (State.quiet_setWordSlot fun h => absurd h hp)

theorem State.inhibits_exchangeByteWord (s : State) (p : ByteSlot) (r : WordSlot) :
    s.Inhibits (s.exchangeByteWord p r) := by
  unfold State.exchangeByteWord
  dsimp only
  split
  · exact State.Quiet.inhibits rfl
  · refine State.inhibits_then_setByteSlot (s.inhibits_setWordSlot r _) (fun hp => ?_) _
    refine State.quiet_setWordSlot fun _ => ?_
    rw [← s.byteSlot_mask hp, zextByte, loByte]
    simp

theorem State.inhibits_exchangeWordByte (s : State) (r : WordSlot) (q : ByteSlot) :
    s.Inhibits (s.exchangeWordByte r q) := by
  unfold State.exchangeWordByte
  dsimp only
  split_ifs
  · exact State.Quiet.inhibits rfl
  · exact State.Quiet.inhibits rfl
  all_goals
    refine State.inhibits_then_setByteSlot (s.inhibits_setWordSlot r _) (fun hq => ?_) _
    exact State.quiet_setWordSlot fun _ => by rw [loByte_join, s.byteSlot_mask hq]

theorem State.inhibits_exchange (s : State) (src dst : Slot) : s.Inhibits (s.exchange src dst) := by
  cases src <;> cases dst
  case byte.byte => exact s.inhibits_exchangeBytes _ _
  case byte.word => exact s.inhibits_exchangeByteWord _ _
  case word.byte => exact s.inhibits_exchangeWordByte _ _
  case word.word => exact s.inhibits_exchangeWords _ _

theorem State.inhibits_exchangeVariant (s : State) (src dst : XReg) : s.Inhibits (s.exchangeVariant src dst) := by
  unfold State.exchangeVariant
  split
  · exact State.Quiet.inhibits rfl
  split
  · exact s.inhibits_exchangeBytes _ _
  · exact s.inhibits_setWordSlot _ _
  · exact s.inhibits_exchangeWordByte _ _
  · exact s.inhibits_exchangeWords _ _

/-! ## Every instruction -/

/-- A meaning answers a state of which `P` holds. -/
def Yields (P : State → Prop) (r : Result) : Prop := ∃ t, r = .next t ∧ P t

theorem Yields.next {P : State → Prop} {t : State} (h : P t) : Yields P (.next t) := ⟨t, rfl, h⟩

theorem Yields.quiet {s t : State} (h : s.Quiet t) : Yields s.Inhibits (.next t) := .next h.inhibits

/-- Every instruction but RTI, by the shape of its meaning. -/
theorem exec_inhibits {i : Instr} (hrti : i ≠ .rti) (s : State) : Yields s.Inhibits (exec i s) := by
  cases i
  case rti => exact absurd rfl hrti
  -- Those that write the CCR, and those that enter an exception.
  case tap | andcc | clc | cli | clv | orcc | sec | sei | sev => exact .next (s.inhibits_writeCcr _)
  case pulc => exact .next (State.Quiet.then (t := s.drop 1) rfl (State.inhibits_writeCcr _ _))
  case pulcw => exact .next (State.Quiet.then (t := s.drop 2) rfl (State.inhibits_writeCcrw _ _))
  case tfr hi src dst => exact .next (s.inhibits_tfr hi src dst)
  case sex hi src dst => exact .next (s.inhibits_sex hi src dst)
  case exg hi src dst =>
    cases hi
    · exact .next (s.inhibits_exchange _ _)
    · exact .next (s.inhibits_exchangeVariant src dst)
  case swi | trap => exact .next (s.inhibits_enter _ _ _)
  case sys => exact .next s.inhibits_systemCall
  case mem => exact .next (State.inhibits_fuzzy s.quiet_membership)
  case rev => exact .next (State.inhibits_fuzzy s.quiet_revElement)
  case revw => exact .next (State.inhibits_fuzzy s.quiet_revwElement)
  case wav => exact .next (State.inhibits_fuzzy s.quiet_wavStart)
  case wavr => exact .next (State.inhibits_fuzzy s.quiet_wavResume)
  -- Registers and flags, with no operand in memory.
  case tab | tba | tpa | tsx | tsy | txs | tys | xgdx | xgdy | des | ins | aba | sba | abx | aby |
      cba | daa | deca | decb | inca | incb | tsta | tstb | coma | comb | nega | negb | asla | aslb | asra | asrb |
      lsra | lsrb | rola | rolb | rora | rorb | decx | decy | incx | incy | tstx | tsty | comx | comy | negx | negy |
      asld | aslx | asly | asrx | asry | lsrd | lsrx | lsry | rolx | roly | rorx | rory | clra | clrb | clrx | clry |
      mul | emul | emuls | pula | pulb | puld | pulx | puly | rts | rtc | nop =>
    exact .quiet (s.quiet_refl.regs rfl)
  case dex | dey | inx | iny => exact .quiet (s.quiet_stepIndex _ _)
  case ediv => exact .quiet s.quiet_div32
  case edivs => exact .quiet s.quiet_div32Signed
  case fdiv => exact .quiet s.quiet_divFraction
  case idiv => exact .quiet s.quiet_div16
  case idivs => exact .quiet s.quiet_div16Signed
  -- Registers and flags, from an operand.
  case ldaa op | ldab op | adca op | adcb op | adda op | addb op | sbca op | sbcb op | suba op | subb op | anda op |
      andb op | eora op | eorb op | oraa op | orab op | cmpa op | cmpb op | bita op | bitb op =>
    exact .quiet ((s.quiet_src8 op).regs rfl)
  case ldd op | addd op | addx op | addy op | aded op | adex op | adey op | subd op | subx op | suby op | sbed op |
      sbex op | sbey op | andx op | andy op | eorx op | eory op | orx op | ory op | cpd op | cps op | cpx op | cpy op |
      cped op | cpes op | cpex op | cpey op | bitx op | bity op =>
    exact .quiet ((s.quiet_src16 op).regs rfl)
  case lds op | ldx op | ldy op => exact .quiet (((s.quiet_src16 op).setLoaded _ _ _).regs rfl)
  case gldaa op | gldab op | gldd op => exact .quiet ((s.quiet_ea op).regs rfl)
  case glds op | gldx op | gldy op => exact .quiet (((s.quiet_ea op).setLoaded _ _ _).regs rfl)
  case leas op | leax op | leay op | maxa op | mina op | tbl op | emaxd op | emind op | etbl op =>
    exact .quiet ((s.quiet_indexed op).regs rfl)
  case tst op | tstw op | jmp op => exact .quiet ((s.quiet_eaExtIdx op).regs rfl)
  -- Stores.
  case staa op | stab op | bclr op _ | bset op _ | btas op _ => exact .quiet (((s.quiet_ea op).write8 _ _).setCcr rfl)
  case std op | sts op | stx op | sty op => exact .quiet (((s.quiet_ea op).write16 _ _).setCcr rfl)
  case gstaa op | gstab op => exact .quiet (((s.quiet_ea op).gwrite8 _ _ _).setCcr rfl)
  case gstd op | gsts op | gstx op | gsty op => exact .quiet (((s.quiet_ea op).gwrite16 _ _).setCcr rfl)
  case movb m => exact .quiet ((s.quiet_moveAddresses m).write8 _ _)
  case movw m => exact .quiet ((s.quiet_moveAddresses m).write16 _ _)
  case clr op => exact .quiet (((s.quiet_eaExtIdx op).write8 _ _).setCcr rfl)
  case clrw op => exact .quiet (((s.quiet_eaExtIdx op).write16 _ _).setCcr rfl)
  case dec op | inc op | com op | neg op | asl op | asr op | lsr op | rol op | ror op =>
    exact .quiet (((s.quiet_eaExtIdx op).write8 _ _).setCcr (by rw [State.write8_ccr]; rfl))
  case decw op | incw op | comw op | negw op | aslw op | asrw op | lsrw op | rolw op | rorw op =>
    exact .quiet (((s.quiet_eaExtIdx op).write16 _ _).setCcr (by rw [State.write16_ccr]; rfl))
  case maxm op | minm op =>
    exact .quiet (((s.quiet_indexed op).write8 _ _).setCcr (by rw [State.write8_ccr]; rfl))
  case emaxm op | eminm op =>
    exact .quiet (((s.quiet_indexed op).write16 _ _).setCcr (by rw [State.write16_ccr]; rfl))
  case emacs addr => exact .quiet (((s.quiet_refl.write16 _ _).write16 _ _).setCcr rfl)
  case psha | pshb | pshc => exact .quiet (s.quiet_refl.push8 _)
  case pshd | pshx | pshy | pshcw => exact .quiet (s.quiet_refl.push16 _)
  -- Changes of flow and of the run state.
  case bra | brn | bcc | bcs | beq | bne | bmi | bpl | bvc | bvs | bhi | bhs | blo | bls | bge | bgt | ble | blt |
      lbra | lbrn | lbcc | lbcs | lbeq | lbne | lbmi | lbpl | lbvc | lbvs | lbhi | lbhs | lblo | lbls | lbge | lbgt |
      lble | lblt =>
    exact .quiet (s.quiet_refl.branchIf _ _)
  case brclr op _ _ | brset op _ _ => exact .quiet ((s.quiet_ea op).branchIf _ _)
  case dbeq r off | dbne r off | tbeq r off | tbne r off | ibeq r off | ibne r off =>
    exact .quiet (s.quiet_loop r _ _ off)
  case bsr => exact .quiet ((s.quiet_refl.push16 _).jump _)
  case jsr op => exact .quiet (((s.quiet_ea op).push16 _).jump _)
  case call op => exact .quiet (s.quiet_callSubroutine op)
  case wai => exact .quiet s.quiet_waitForInterrupt
  case stop => exact .quiet s.quiet_stopProcessing
  case bgnd => exact .quiet s.quiet_background

/-- RTI keeps the parameters, the inputs and the counter, and leaves no inhibit (R541, R692). -/
theorem State.returnFromException_timing (s : State) :
    let t := s.returnFromException
    t.cfg = s.cfg ∧ t.inputs = s.inputs ∧ t.tick = s.tick ∧ t.iDelay = false := by
  obtain ⟨-, -, -, -, -, -, -, -, hspecial, -⟩ := s.returnFromException_spec
  simp only [State.special, Prod.mk.injEq] at hspecial
  obtain ⟨hcfg, -, -, -, -, -, hdelay, -, hinputs, htick, -⟩ := hspecial
  exact ⟨hcfg, hinputs, htick, hdelay⟩

/-- Every instruction answers, and keeps the parameters, the inputs and the counter (R648). -/
theorem exec_answers (i : Instr) (s : State) :
    ∃ t, exec i s = .next t ∧ t.cfg = s.cfg ∧ t.inputs = s.inputs ∧ t.tick = s.tick := by
  by_cases hrti : i = .rti
  · subst hrti
    obtain ⟨hcfg, hinputs, htick, -⟩ := s.returnFromException_timing
    exact ⟨_, rfl, hcfg, hinputs, htick⟩
  · obtain ⟨t, ht, hcfg, hinputs, htick, -⟩ := exec_inhibits hrti s
    exact ⟨t, ht, hcfg, hinputs, htick⟩

/-! ## Recognition while the inhibit holds -/

theorem State.recognised_ne_irq {s : State} (h : s.iDelay = true) (env : Env) (vec : Byte) (level : BitVec 3) :
    s.recognised env ≠ some { vec := vec, kind := .irq level } := by
  simp only [State.recognised, h, Bool.not_true, Bool.and_false, Bool.false_eq_true, if_false]
  split
  · simp
  split <;> simp

/-- Settles O17: what an instruction does to the inhibit by `exec_inhibits`, and by `State.returnFromException_timing` for
RTI. -/
theorem inhibitFollowsClearedMask : Obligations.InhibitFollowsClearedMask := by
  refine ⟨fun i s t hdelay h => ?_, fun s env vec level hdelay => State.recognised_ne_irq hdelay env vec level⟩
  by_cases hrti : i = .rti
  · subst hrti
    obtain rfl : s.returnFromException = t := by injection h
    obtain ⟨-, -, -, hnone⟩ := s.returnFromException_timing
    simp [hnone]
  · obtain ⟨u, hu, hinhibits⟩ := exec_inhibits hrti s
    obtain rfl : u = t := by
      rw [hu] at h
      injection h
    simp [hinhibits.inhibit hdelay, hrti]

end Sys2Proof.Machine
end

section
/-!
SUPPORT. Which bytes the decoder refuses, and what a step that runs an instruction answers (30_encoding.md R90, R121,
R126; 60_exceptions.md R648, R651; 20_memory.md R86).
-/

namespace Sys2Proof.Machine

/-! ## Bit 3 of the transfer postbyte (R121) -/

/-- `take` never refuses bit 3 of a transfer postbyte. -/
def AllowsBit3 {α : Type} (take : List Byte → Taken α) : Prop := ∀ bs, take bs ≠ .error .transferBit3

theorem allowsBit3_ok {α : Type} (a : α) : AllowsBit3 fun bs => .ok (a, bs) := nofun

theorem allowsBit3_error {α : Type} {e : DecodeError} (h : e ≠ .transferBit3) :
    AllowsBit3 (α := α) fun _ => .error e := by
  rintro bs ⟨⟩
  exact h rfl

/-- One part after another. -/
theorem AllowsBit3.andThen {α β : Type} {take : List Byte → Taken α} {next : α → List Byte → Taken β}
    (h : AllowsBit3 take) (hn : ∀ a, AllowsBit3 (next a)) : AllowsBit3 (andThen take next) := by
  intro bs
  rw [Machine.andThen]
  cases htake : take bs with
  | error e =>
    rintro ⟨⟩
    exact h bs htake
  | ok x => exact hn x.1 x.2

theorem AllowsBit3.andMake {α β : Type} {take : List Byte → Taken α} (h : AllowsBit3 take) (f : α → β) :
    AllowsBit3 (andMake take f) :=
  h.andThen fun a => allowsBit3_ok (f a)

theorem allowsBit3_takeByte : AllowsBit3 takeByte := by
  intro bs
  cases bs <;> exact nofun

theorem allowsBit3_takeWord : AllowsBit3 takeWord := by
  intro bs
  match bs with
  | [] | [_] | _ :: _ :: _ => exact nofun

theorem allowsBit3_takeFormBytes (r : IdxReg) (f : BitVec 3) : AllowsBit3 (takeFormBytes r f) := by
  unfold takeFormBytes
  split_ifs
  case pos | pos | pos | pos => exact allowsBit3_ok _
  case pos | pos => exact allowsBit3_takeWord.andMake _
  case neg => exact allowsBit3_takeByte.andMake _

theorem allowsBit3_takeIndexed : AllowsBit3 takeIndexed := by
  intro bs
  cases bs with
  | nil => exact nofun
  | cons xb bs =>
    obtain ⟨r, n, rfl⟩ | ⟨r, p, n, rfl⟩ | ⟨r, f, rfl⟩ := postbyte_cases xb
    · rw [takeIndexed_off5]
      exact nofun
    · rw [takeIndexed_auto]
      exact nofun
    · rw [takeIndexed_form]
      exact allowsBit3_takeFormBytes _ f bs

theorem allowsBit3_takeForm (accepts : Indexed → Bool) : AllowsBit3 (takeForm accepts) := by
  rw [takeForm_eq]
  refine allowsBit3_takeIndexed.andThen fun xb => ?_
  split_ifs
  · exact allowsBit3_ok xb
  · exact allowsBit3_error nofun

theorem allowsBit3_pInh (i : Instr) : AllowsBit3 (pInh i) := allowsBit3_ok i

theorem allowsBit3_pByte (f : Byte → Instr) : AllowsBit3 (pByte f) := allowsBit3_takeByte.andMake f

theorem allowsBit3_pWord (f : Word → Instr) : AllowsBit3 (pWord f) := allowsBit3_takeWord.andMake f

theorem allowsBit3_pIdx (accepts : Indexed → Bool) (f : Indexed → Instr) : AllowsBit3 (pIdx accepts f) :=
  (allowsBit3_takeForm accepts).andMake f

theorem allowsBit3_takeDir : AllowsBit3 takeDir := allowsBit3_takeByte.andMake _

theorem allowsBit3_takeExt : AllowsBit3 takeExt := allowsBit3_takeWord.andMake _

theorem allowsBit3_takeIdx : AllowsBit3 takeIdx := (allowsBit3_takeForm _).andMake _

theorem AllowsBit3.thenMask {take : List Byte → Taken DirExtIdx} (h : AllowsBit3 take) (f : DirExtIdx → Byte → Instr) :
    AllowsBit3 (thenMask take f) :=
  h.andThen fun m => allowsBit3_takeByte.andMake (f m)

theorem AllowsBit3.thenMaskRel {take : List Byte → Taken DirExtIdx} (h : AllowsBit3 take)
    (f : DirExtIdx → Byte → Byte → Instr) : AllowsBit3 (thenMaskRel take f) :=
  h.andThen fun m => allowsBit3_takeByte.andThen fun mask => allowsBit3_takeByte.andMake (f m mask)

/-- The six classes of a move (R219). -/
theorem allowsBit3_move {α : Type} {imm : List Byte → Taken α} (himm : AllowsBit3 imm) (v : Version)
    (f : Move α → Instr) :
    AllowsBit3 (pMoveImmIdx v imm f) ∧ AllowsBit3 (pMoveExtIdx v f) ∧ AllowsBit3 (pMoveIdxIdx v f) ∧
      AllowsBit3 (pMoveImmExt imm f) ∧ AllowsBit3 (pMoveExtExt f) ∧ AllowsBit3 (pMoveIdxExt v f) := by
  have form := allowsBit3_takeForm (moveForm v)
  have word := allowsBit3_takeWord
  rw [pMoveImmIdx_eq, pMoveExtIdx_eq, pMoveIdxIdx_eq, pMoveImmExt_eq, pMoveExtExt_eq, pMoveIdxExt_eq]
  exact ⟨form.andThen fun _ => himm.andMake _, form.andThen fun _ => word.andMake _,
    form.andThen fun _ => form.andMake _, himm.andThen fun _ => word.andMake _, word.andThen fun _ => word.andMake _,
    form.andThen fun _ => word.andMake _⟩

theorem allowsBit3_pCallExt : AllowsBit3 pCallExt := by
  rw [pCallExt_eq]
  exact allowsBit3_takeWord.andThen fun _ => allowsBit3_takeByte.andMake _

theorem allowsBit3_pCallIdx : AllowsBit3 pCallIdx := by
  rw [pCallIdx_eq]
  refine allowsBit3_takeIndexed.andThen fun xb => ?_
  split_ifs
  · exact allowsBit3_takeByte.andMake _
  · exact allowsBit3_ok _

theorem allowsBit3_pLoop : AllowsBit3 pLoop := by
  rw [pLoop_eq]
  refine allowsBit3_takeByte.andThen fun lb => allowsBit3_takeByte.andThen fun rr => ?_
  cases loopOf lb rr with
  | none => exact allowsBit3_error nofun
  | some i => exact allowsBit3_ok i

theorem allowsBit3_pTransfer {v : Version} (h : v ≠ .cpu12v1) : AllowsBit3 (pTransfer v) := by
  rw [pTransfer_eq]
  refine allowsBit3_takeByte.andThen fun eb => ?_
  rw [beq_false_of_ne h, Bool.and_false]
  exact allowsBit3_ok _

/-- An entry of a map stands in one of its rows. -/
theorem mem_of_mapEntry {rows : List (List Parser)} {b : Byte} {p : Parser} (h : mapEntry rows b = some p) :
    ∃ row ∈ rows, p ∈ row := by
  unfold mapEntry at h
  split at h
  · cases h
  · next row hrow => exact ⟨row, List.mem_of_getElem? hrow, List.mem_of_getElem? h⟩

theorem allowsBit3_page2 (v : Version) :
    ∀ row ∈ if v.isX then page2X v else page2Cpu12 v, ∀ p ∈ row, AllowsBit3 p := by
  have word := allowsBit3_move allowsBit3_takeWord v .movw
  have byte := allowsBit3_move allowsBit3_takeByte v .movb
  split
  all_goals
    simp [page2X, page2Cpu12, page2Row0, page2Row1, page2Row2, page2Row3Cpu12, page2Row3, page2Row4, page2Row5,
      page2Row6, page2Row7, page2Row8, page2Row9, page2RowA, page2RowB, page2RowC, page2RowD, page2RowE, page2RowF,
      word, byte, allowsBit3_pInh, allowsBit3_pByte, allowsBit3_pWord, allowsBit3_pIdx, AllowsBit3.thenMask,
      allowsBit3_takeDir, allowsBit3_takeExt, allowsBit3_takeIdx, pI16, pD16, pX16, pE16, pDM, pXM, pEM, pXE, pEE]

theorem allowsBit3_pPage2 (v : Version) : AllowsBit3 (pPage2 v) := by
  rw [pPage2_eq]
  refine allowsBit3_takeByte.andThen fun tn => ?_
  cases hp : mapEntry (if v.isX then page2X v else page2Cpu12 v) tn with
  | none => exact allowsBit3_ok _
  | some p =>
    obtain ⟨row, hrow, hmem⟩ := mem_of_mapEntry hp
    exact allowsBit3_page2 v row hrow p hmem

theorem allowsBit3_page1 {v : Version} (h : v ≠ .cpu12v1) : ∀ row ∈ page1 v, ∀ p ∈ row, AllowsBit3 p := by
  simp [page1, page1Row0, page1Row1, page1Row2, page1Row3, page1Row4, page1Row5, page1Row6, page1Row7, page1Row8,
    page1Row9, page1RowA, page1RowB, page1RowC, page1RowD, page1RowE, page1RowF, allowsBit3_pPage2,
    allowsBit3_pTransfer h, allowsBit3_pLoop, allowsBit3_pInh, allowsBit3_pByte, allowsBit3_pWord, allowsBit3_pIdx,
    AllowsBit3.thenMask, AllowsBit3.thenMaskRel, allowsBit3_takeDir, allowsBit3_takeExt, allowsBit3_takeIdx,
    allowsBit3_pCallExt, allowsBit3_pCallIdx, pLea, pI8, pD8, pX8, pE8, pI16, pD16, pX16, pE16, pDM, pXM, pEM, pXE, pEE]

/-- Bit 3 of a transfer postbyte is refused on CPU12V1 alone (R121, R205). -/
theorem eq_cpu12v1_of_transferBit3 {v : Version} {bs : List Byte} (h : decode v bs = .error .transferBit3) :
    v = .cpu12v1 := by
  by_contra hv
  revert h
  rw [decode_eq]
  refine allowsBit3_takeByte.andThen (fun op => ?_) bs
  cases hp : mapEntry (page1 v) op with
  | none => exact allowsBit3_error nofun
  | some p =>
    obtain ⟨row, hrow, hmem⟩ := mem_of_mapEntry hp
    exact allowsBit3_page1 hv row hrow p hmem

/-! ## A step that runs an instruction (R651) -/

/-- The decoder never finds the eight bytes at the PC too few (R90). -/
theorem State.decode_fetchBytes_ne_truncated (s : State) (v : Version) : decode v s.fetchBytes ≠ .error .truncated :=
  decodedIsWellFormed.2 v s.fetchBytes (by simp [State.fetchBytes, eightFrom])

/-- What is left of an instruction once it has run from a boundary. -/
theorem State.continued_ready (s : State) {n : Nat} (h : n ≤ 8) (t : State) :
    let paged := t.pageStored = true ∧ s.cfg.phys.expanded = true ∧
      ∃ k < n, inWindow (s.pc + BitVec.ofNat 16 k) = true
    (¬ paged → s.ready.continued n (.next t) = .next t) ∧
      (paged → s.ready.continued n (.next t) = .refused .pageStoredInWindow) := by
  have hwindow := s.ready.runsInWindow_iff h
  rw [State.ready_cfg, State.ready_pc] at hwindow
  rw [State.continued_next]
  exact ⟨fun hp => if_neg (mt (And.imp_right hwindow.mp) hp), fun hp => if_pos (hp.imp_right hwindow.mpr)⟩

theorem State.runInstruction_of_fetch_error {s : State} {r : Refusal} (h : s.fetch = .error r) :
    s.runInstruction = .refused r := by
  rw [State.runInstruction, h]

theorem State.runInstruction_of_fetch_ok {s : State} {i : Instr} {n : Nat} (h : s.fetch = .ok (i, n)) :
    s.runInstruction = s.continued n (exec i (s.setPc (s.pc + BitVec.ofNat 16 n))) := by
  rw [State.runInstruction, h]

section
variable {s : State} (hreset : s.env.reset = none) (hrun : s.run = .running)
  (hnone : s.begin.recognised s.env = none) (hforced : s.env.forced = none)
include hreset hrun hnone hforced

/-- Bytes that name no instruction. -/
theorem step_of_decode_error {e : DecodeError} (h : decode s.cfg.version s.ready.fetchBytes = .error e) :
    step s = .refused (DecodeError.refusal e) := by
  rw [step_instruction hreset hrun hnone hforced]
  obtain ⟨e', he, hfetch⟩ | ⟨i, rest, hok, -⟩ := s.ready.fetch_cases
  · rw [State.ready_cfg, h] at he
    cases he
    exact State.runInstruction_of_fetch_error hfetch
  · rw [State.ready_cfg, h] at hok
    cases hok

/-- Bytes that name an instruction: one of them was stored to, or it is executed with the PC past them. -/
theorem step_of_decode {i : Instr} {rest : List Byte} (h : decode s.cfg.version s.ready.fetchBytes = .ok (i, rest)) :
    ((∃ k < 8 - rest.length, s.pc + BitVec.ofNat 16 k ∈ s.stale) ∧ step s = .refused .storedIntoQueue) ∨
      (∀ k < 8 - rest.length, s.pc + BitVec.ofNat 16 k ∉ s.stale) ∧
        ∃ t, exec i (s.ready.setPc (s.pc + BitVec.ofNat 16 (8 - rest.length))) = .next t ∧
          step s = s.ready.continued (8 - rest.length) (.next t) := by
  rw [step_instruction hreset hrun hnone hforced]
  obtain ⟨e, he, -⟩ | ⟨j, rest', hok, hcases⟩ := s.ready.fetch_cases
  · rw [State.ready_cfg, h] at he
    cases he
  · rw [State.ready_cfg, h] at hok
    cases hok
    rw [State.ready_pc, State.ready_stale] at hcases
    obtain ⟨hstale, hfetch⟩ | ⟨hfresh, hfetch⟩ := hcases
    · exact .inl ⟨hstale, State.runInstruction_of_fetch_error hfetch⟩
    · obtain ⟨t, ht, -⟩ := exec_answers i (s.ready.setPc (s.pc + BitVec.ofNat 16 (8 - rest.length)))
      exact .inr ⟨hfresh, t, ht, by rw [State.runInstruction_of_fetch_ok hfetch, State.ready_pc, ht]⟩

end

/-- Settles O10: the decoded instruction is executed by `step_of_decode`, in the state `State.ready_setPc` writes out. -/
theorem stepRunsDecodedInstruction : Obligations.StepRunsDecodedInstruction := by
  intro s i rest hreset hrun hnone hforced hdecode hfresh
  rw [← s.fetchBytes_ready] at hdecode
  obtain ⟨⟨k, hk, hstale⟩, -⟩ | ⟨-, t, ht, hstep⟩ := step_of_decode hreset hrun hnone hforced hdecode
  · exact absurd hstale (hfresh k hk)
  · rw [hstep, ← s.ready_setPc]
    exact ⟨t, ht, s.continued_ready (Nat.sub_le 8 _) t⟩

/-- A step that is refused was to run an instruction. -/
theorem step_refused {s : State} {r : Refusal} (h : step s = .refused r) :
    s.env.reset = none ∧ s.run = .running ∧ s.begin.recognised s.env = none ∧ s.env.forced = none := by
  cases hreset : s.env.reset with
  | some kind => exact absurd ((step_reset hreset).symm.trans h) nofun
  | none =>
    cases hrun : s.run with
    | bdm => exact absurd ((step_bdm hreset hrun).symm.trans h) nofun
    | waiting => exact absurd ((step_waiting hreset (.inl hrun)).symm.trans h) nofun
    | stopped => exact absurd ((step_waiting hreset (.inr hrun)).symm.trans h) nofun
    | running =>
      cases hnone : s.begin.recognised s.env with
      | some q => exact absurd ((step_request hreset hrun hnone).symm.trans h) nofun
      | none =>
        cases hforced : s.env.forced with
        | some f => exact absurd ((step_forced hreset hrun hnone hforced).symm.trans h) nofun
        | none => exact ⟨rfl, rfl, rfl, rfl⟩

/-- Settles O12: the instructions by `exec_answers`; a refused step by what the fetch and the page stored to can refuse,
the decoder's errors one by one. -/
theorem stopsOnlyWhereRefused : Obligations.StopsOnlyWhereRefused := by
  refine ⟨exec_answers, fun s r hrefused => ?_⟩
  obtain ⟨hreset, hrun, hnone, hforced⟩ := step_refused hrefused
  rw [← s.fetchBytes_ready]
  refine ⟨hreset, hrun, hnone, ?_⟩
  cases hdecode : decode s.cfg.version s.ready.fetchBytes with
  | error e =>
    obtain rfl : DecodeError.refusal e = r := by
      injection (step_of_decode_error hreset hrun hnone hforced hdecode).symm.trans hrefused
    cases e with
    | truncated => exact absurd hdecode (s.ready.decode_fetchBytes_ne_truncated _)
    | indexedForm => exact .inl ⟨rfl, rfl⟩
    | loopPostbyte => exact .inr (.inl ⟨rfl, rfl⟩)
    | transferBit3 => exact .inr (.inr (.inl ⟨rfl, eq_cpu12v1_of_transferBit3 hdecode, rfl⟩))
  | ok x =>
    obtain ⟨i, rest⟩ := x
    refine .inr (.inr (.inr ⟨i, rest, rfl, ?_⟩))
    obtain ⟨hstale, hstep⟩ | ⟨-, t, ht, hstep⟩ := step_of_decode hreset hrun hnone hforced hdecode
    · obtain rfl : Refusal.storedIntoQueue = r := by injection hstep.symm.trans hrefused
      exact .inl ⟨rfl, hstale⟩
    · obtain ⟨hnext, hpaged⟩ := s.continued_ready (Nat.sub_le 8 rest.length) t
      by_cases hp : t.pageStored = true ∧ s.cfg.phys.expanded = true ∧
          ∃ k < 8 - rest.length, inWindow (s.pc + BitVec.ofNat 16 k) = true
      · obtain rfl : Refusal.pageStoredInWindow = r := by injection (hpaged hp).symm.trans (hstep.symm.trans hrefused)
        obtain ⟨hstored, hexpanded, hwindow⟩ := hp
        rw [← s.ready_setPc]
        exact .inr ⟨rfl, hexpanded, hwindow, t, ht, hstored⟩
      · exact absurd ((hnext hp).symm.trans (hstep.symm.trans hrefused)) nofun

end Sys2Proof.Machine
end

section
/-!
SUPPORT. Pushes and pulls, WAI, STOP and BGND (48_stack_index_ccr_misc.md R560 to R576, R595 to R599;
47_jump_call_interrupt.md R548).
-/

namespace Sys2Proof.Machine

/-! ## Pushes (R560 to R567) -/

/-- A byte just stored is held, whatever else but memory has changed since. -/
theorem State.storedByte_of_bus {s t : State} {a : Word} {v : Byte} (h : t.bus = (s.write8 a v).bus) :
    s.storedByte t a v :=
  (State.peek_of_bus h _).trans (s.peek_write8_same a v)

/-- Every location but that of a byte just stored keeps its byte. -/
theorem State.bytesKept_write8_of_bus {s t : State} {a : Word} {v : Byte} (h : t.bus = (s.write8 a v).bus) :
    s.bytesKept t [s.locate a] := fun l hl =>
  (State.peek_of_bus h l).trans (s.peek_write8_other a v (by simpa using hl))

/-- A byte pushed is stored one below the SP, and nothing but the SP changes besides. -/
theorem State.push8_spec (s : State) (v : Byte) :
    let t := s.push8 v
    t.regs = (s.setSp (s.sp - 1)).regs ∧ t.ccr = s.ccr ∧ t.pc = s.pc ∧ t.special = s.special ∧
      s.storedByte t (s.sp - 1) v ∧ s.bytesKept t [s.locate (s.sp - 1)] ∧ s.marked t [s.locate (s.sp - 1)] := by
  have hbus : (s.push8 v).bus = (s.write8 (s.sp - 1) v).bus := State.write8_bus_congr (State.setSp_bus s _) _ v
  have marked := (s.setSp (s.sp - 1)).marked_write8 (s.sp - 1) v
  exact ⟨by simp [State.regs], by simp, by simp, by simp [State.special], State.storedByte_of_bus hbus,
    State.bytesKept_write8_of_bus hbus, State.marked_congr marked (State.setSp_bus s _) rfl rfl rfl⟩

/-- A word pushed is stored two below the SP, and nothing but the SP changes besides. -/
theorem State.push16_spec (s : State) (v : Word) :
    let t := s.push16 v
    t.regs = (s.setSp (s.sp - 2)).regs ∧ t.ccr = s.ccr ∧ t.pc = s.pc ∧ t.special = s.special ∧
      s.storedWord t (s.sp - 2) v ∧ s.bytesKept t (s.wordLocs (s.sp - 2) v) ∧
      s.marked t (s.wordLocs (s.sp - 2) v) := by
  have places : (s.setSp (s.sp - 2)).wordLocs (s.sp - 2) v = s.wordLocs (s.sp - 2) v := by
    rw [State.wordLocs, State.wordLocs, State.locate_of_bus (State.setSp_bus s _),
      State.locate_of_bus (State.write8_bus_congr (State.setSp_bus s _) _ _)]
  have marked := (s.setSp (s.sp - 2)).marked_write16 (s.sp - 2) v
  rw [places] at marked
  exact ⟨by simp [State.regs], by simp, by simp, by simp [State.special], State.storedWord_of_bus (s.push16_bus v),
    State.bytesKept_write16_of_bus (s.push16_bus v), State.marked_congr marked (State.setSp_bus s _) rfl rfl rfl⟩

/-! ## Pulls (R570 to R576) -/

theorem State.regsOnly_drop (s : State) (n : Nat) : s.RegsOnly (s.drop n) := ⟨rfl, rfl, rfl, rfl, rfl⟩

/-- The SP plays no part in a CCR write. -/
theorem State.writeCcr_setSp (s : State) (p : Word) (v : Byte) : (s.setSp p).writeCcr v = (s.writeCcr v).setSp p := by
  rw [State.writeCcr_eq, State.writeCcr_eq]
  rfl

theorem State.writeCcrw_setSp (s : State) (p w : Word) : (s.setSp p).writeCcrw w = (s.writeCcrw w).setSp p := by
  rw [State.writeCcrw_eq, State.writeCcrw_eq, State.writeCcr_setSp]
  rfl

/-- Settles O52: the encodings by `reads_encode`, the pushes by `State.push8_spec` and `State.push16_spec`; a pull of the
CCR is a write of it, which the SP does not enter. -/
theorem pushesAndPulls : Obligations.PushesAndPulls := by
  refine ⟨fun v rest => ?encodings, fun s => ⟨?bytes, ?words, ?pulls, ?pulc, ?pulcw⟩⟩
  case encodings =>
    have code (i : Instr) (h : i.wf v = true) := reads_encode h rest
    simp only [List.forall_mem_cons, List.not_mem_nil, false_implies, implies_true, and_true]
    exact ⟨code .psha rfl, code .pshb rfl, code .pshc rfl, code .pshd rfl, code .pshx rfl, code .pshy rfl,
      code .pula rfl, code .pulb rfl, code .pulc rfl, code .puld rfl, code .pulx rfl, code .puly rfl⟩
  case bytes =>
    simp only [List.forall_mem_cons, List.not_mem_nil, false_implies, implies_true, and_true]
    exact ⟨⟨_, rfl, s.push8_spec s.a⟩, ⟨_, rfl, s.push8_spec s.b⟩, ⟨_, rfl, s.push8_spec s.ccr.toByte⟩⟩
  case words =>
    simp only [List.forall_mem_cons, List.not_mem_nil, false_implies, implies_true, and_true]
    exact ⟨⟨_, rfl, s.push16_spec s.d⟩, ⟨_, rfl, s.push16_spec s.x⟩, ⟨_, rfl, s.push16_spec s.y⟩,
      ⟨_, rfl, s.push16_spec s.ccrw⟩⟩
  case pulls =>
    have pulled {t : State} (h : s.RegsOnly t) : t.ccr = s.ccr ∧ s.still t := ⟨h.ccr, h.still t.ccr⟩
    have one := s.regsOnly_drop 1
    have two := s.regsOnly_drop 2
    simp only [List.forall_mem_cons, List.not_mem_nil, false_implies, implies_true, and_true]
    exact ⟨⟨_, rfl, rfl, pulled (one.trans (State.regsOnly_setAcc _ .a _))⟩,
      ⟨_, rfl, rfl, pulled (one.trans (State.regsOnly_setAcc _ .b _))⟩,
      ⟨_, rfl, rfl, pulled (two.trans (State.regsOnly_setD _ _))⟩,
      ⟨_, rfl, rfl, pulled (two.trans (State.regsOnly_setAutoReg _ .x _))⟩,
      ⟨_, rfl, rfl, pulled (two.trans (State.regsOnly_setAutoReg _ .y _))⟩⟩
  case pulc => exact next_congr (s.writeCcr_setSp _ _)
  case pulcw => exact next_congr (s.writeCcrw_setSp _ _)

/-! ## WAI, STOP and BGND (R595, R598, R599, R548) -/

/-- A CPU that halts has its frame on the stack and nothing else changed but the run state. -/
theorem State.halted_spec (s : State) (run : RunState) :
    let top := s.sp - BitVec.ofNat 16 s.frameSize
    let t := (s.stackFrame s.pc).setRun run
    t.pc = s.pc ∧ (t.a, t.b, t.x, t.y) = (s.a, s.b, s.x, s.y) ∧ t.ccr = s.ccr ∧ t.special = (s.setRun run).special ∧
      t.sp = top ∧
      (s.plain top s.frameSize →
        s.holdsFrame t top s.pc ∧ s.bytesKept t (s.locsFrom top s.frameSize)) := by
  refine ⟨by simp, by simp, by simp, by simp [State.special], s.stackFrame_sp s.pc, fun hplain => ?_⟩
  obtain ⟨hframe, -, hkept⟩ := State.stackFrame_plain hplain s.pc
  exact ⟨hframe, hkept⟩

/-- Settles O56: each of the three by the condition of its definition, and `State.halted_spec`. -/
theorem waitStopBackground : Obligations.WaitStopBackground := by
  intro s n top halts
  exact ⟨fun hu => next_congr (if_pos hu),
    fun hu => ⟨_, next_congr (if_neg (by simp [hu])), s.halted_spec .waiting⟩,
    fun hs => next_congr (if_pos ((Bool.or_eq_true _ _).mpr hs)),
    fun hs hu => ⟨_, next_congr (if_neg (by simp [hs, hu])), s.halted_spec .stopped⟩,
    fun hb => next_congr (if_neg (by simp [hb])), fun hb => next_congr (if_pos hb)⟩

end Sys2Proof.Machine
end

section
/-!
SUPPORT. The step boundary: which request is recognised, waking from WAI and STOP, and reset (60_exceptions.md R625,
R626, R651; 48_stack_index_ccr_misc.md R598, R599; 70_reset_and_hazards.md R680).
-/

namespace Sys2Proof.Machine

/-! ## The order of I-maskable requests (R625) -/

/-- `q` comes no earlier than `r`: by level, then by vector on CPU12X, by vector alone on CPU12. -/
def Irq.NoEarlier (isX : Bool) (q r : Irq) : Prop :=
  if isX = true then q.level.toNat < r.level.toNat ∨ (q.level = r.level ∧ q.vec.toNat ≤ r.vec.toNat)
  else q.vec.toNat ≤ r.vec.toNat

theorem Irq.noEarlier_refl (isX : Bool) (q : Irq) : q.NoEarlier isX q := by
  cases isX
  · exact Nat.le_refl _
  · exact .inr ⟨rfl, Nat.le_refl _⟩

theorem Irq.NoEarlier.trans {isX : Bool} {p q r : Irq} (h : p.NoEarlier isX q) (g : q.NoEarlier isX r) :
    p.NoEarlier isX r := by
  cases isX
  · exact Nat.le_trans h g
  · obtain hlt | ⟨heq, hvec⟩ := h <;> obtain glt | ⟨geq, gvec⟩ := g
    · exact .inl (hlt.trans glt)
    · exact .inl (geq ▸ hlt)
    · exact .inl (heq ▸ glt)
    · exact .inr ⟨heq.trans geq, hvec.trans gvec⟩

/-- The better of two requests is one of them, and neither comes earlier. -/
theorem betterIrq_spec (isX : Bool) (p q : Irq) :
    (betterIrq isX p q = p ∨ betterIrq isX p q = q) ∧ p.NoEarlier isX (betterIrq isX p q) ∧
      q.NoEarlier isX (betterIrq isX p q) := by
  have choice : betterIrq isX p q = q ∧ p.NoEarlier isX q ∨ betterIrq isX p q = p ∧ q.NoEarlier isX p := by
    cases isX
    · by_cases h : p.vec.toNat < q.vec.toNat
      · exact .inl ⟨if_pos h, h.le⟩
      · exact .inr ⟨if_neg h, Nat.le_of_not_lt h⟩
    · simp only [betterIrq, Irq.NoEarlier, if_true, Bool.or_eq_true, decide_eq_true_eq, Bool.and_eq_true, beq_iff_eq,
        ← BitVec.toNat_inj]
      split_ifs with h
      · exact .inl ⟨rfl, by omega⟩
      · exact .inr ⟨rfl, by omega⟩
  obtain ⟨he, h⟩ | ⟨he, h⟩ := choice <;> rw [he]
  · exact ⟨.inr rfl, h, q.noEarlier_refl isX⟩
  · exact ⟨.inl rfl, p.noEarlier_refl isX, h⟩

/-- The first of a list of requests is one of them, and none comes earlier; only an empty list has none. -/
theorem bestIrq_spec (isX : Bool) (l : List Irq) :
    (l = [] ∧ bestIrq isX l = none) ∨ ∃ r ∈ l, bestIrq isX l = some r ∧ ∀ q ∈ l, q.NoEarlier isX r := by
  induction l with
  | nil => exact .inl ⟨rfl, rfl⟩
  | cons p l ih =>
    refine .inr ?_
    obtain ⟨rfl, hnone⟩ | ⟨r, hr, hbest, hfirst⟩ := ih
    · exact ⟨p, by simp, rfl, by simp [Irq.noEarlier_refl]⟩
    · obtain ⟨hmem, hp, hq⟩ := betterIrq_spec isX p r
      refine ⟨betterIrq isX p r, ?_, by rw [bestIrq, hbest], ?_⟩
      · obtain he | he := hmem <;> rw [he]
        · exact List.mem_cons_self
        · exact List.mem_cons_of_mem p hr
      · exact List.forall_mem_cons.mpr ⟨hp, fun q hql => (hfirst q hql).trans hq⟩

/-! ## What is recognised (R626) -/

/-- The pending requests above the current level. -/
theorem State.mem_filter_admits (s : State) (irqs : List Irq) (q : Irq) :
    q ∈ irqs.filter s.admits ↔ q ∈ irqs ∧ (s.cfg.version.isX = true → s.ccrh.ipl.toNat < q.level.toNat) := by
  rw [List.mem_filter, State.admits]
  cases s.cfg.version.isX <;> simp

/-- Below an access error and an unmasked XIRQ, the first pending request above the level, if no mask holds. -/
theorem State.recognised_maskable {s : State} {env : Env} (hnmi : env.nmi = none)
    (hxirq : env.xirq = false ∨ s.ccr.x = true) :
    s.recognised env = if s.ccr.i = true ∨ s.iDelay = true then none
      else (bestIrq s.cfg.version.isX (env.irqs.filter s.admits)).map fun r => { vec := r.vec, kind := .irq r.level } := by
  have hmasked : (env.xirq && !s.ccr.x) = false := by
    obtain h | h := hxirq <;> simp [h]
  rw [State.recognised, hnmi]
  simp only [hmasked, Bool.false_eq_true, if_false]
  by_cases hm : s.ccr.i = true ∨ s.iDelay = true
  · rw [if_pos hm, if_neg (by simpa [imp_iff_not_or] using hm)]
  · rw [if_neg hm, if_pos (by simpa using hm)]
    cases bestIrq s.cfg.version.isX (env.irqs.filter s.admits) <;> rfl

/-- Settles O57: the I-maskable requests by `State.recognised_maskable` and `bestIrq_spec`. -/
theorem recognisedRequests : Obligations.RecognisedRequests := by
  intro s env isX above masked
  have mem (q : Irq) : q ∈ env.irqs.filter s.admits ↔ above q := s.mem_filter_admits env.irqs q
  refine ⟨fun vec hnmi => ?accessError, fun hnmi hxirq hx => ?xirq, fun hnmi hxirq hnone => ?none,
    fun hnmi hxirq hunmasked hsome => ?irq⟩
  case accessError => rw [State.recognised, hnmi]
  case xirq => simp [State.recognised, hnmi, hxirq, hx]
  case none =>
    rw [State.recognised_maskable hnmi hxirq]
    obtain hmasked | hnone := hnone
    · exact if_pos hmasked
    · obtain ⟨-, hbest⟩ | ⟨r, hr, -⟩ := bestIrq_spec isX (env.irqs.filter s.admits)
      · rw [hbest]
        exact ite_self _
      · exact absurd ⟨r, (mem r).mp hr⟩ hnone
  case irq =>
    rw [State.recognised_maskable hnmi hxirq, if_neg hunmasked]
    obtain ⟨hempty, -⟩ | ⟨r, hr, hbest, hfirst⟩ := bestIrq_spec isX (env.irqs.filter s.admits)
    · obtain ⟨q, hq⟩ := hsome
      exact absurd ((mem q).mpr hq) (by simp [hempty])
    · exact ⟨r, (mem r).mp hr, by rw [hbest]; rfl, fun q hq => hfirst q ((mem q).mpr hq)⟩

/-! ## Waking (R598, R599, R647) -/

/-- An entry with the frame already on the stack stores nothing and leaves the SP. -/
theorem State.enterStacked_spec (s : State) (vec : Byte) (k : EntryKind) :
    let t := s.enterStacked vec k
    s.vectored t vec (entryX s.ccr.x k) (entryIpl s.cfg.version.isX s.ccrh.ipl k) ∧ t.sp = s.sp ∧
      s.bytesKept t [] :=
  ⟨State.startHandler_vectored rfl rfl rfl vec k, by simp [State.enterStacked],
    State.bytesKept_of_bus (by simp [State.enterStacked]) []⟩

theorem State.wake_some {s : State} {env : Env} {r : Request} (h : s.recognised env = some r) :
    s.wake env = s.enterStacked r.vec r.kind := by
  rw [State.wake, h]

theorem State.wake_none {s : State} {env : Env} (h : s.recognised env = none) :
    s.wake env = if env.xirq && s.ccr.x then
      (s.setSp (s.sp + BitVec.ofNat 16 s.frameSize)).setRun .running else s := by
  rw [State.wake, h]
  rfl

/-- Settles O59: the step is `State.wake`, which enters as `State.enterStacked_spec` says. -/
theorem wakeFromWaitAndStop : Obligations.WakeFromWaitAndStop := by
  intro s hreset hrun
  have hstep := step_waiting hreset hrun
  refine ⟨fun r hr => ?_, fun hnone => ?_⟩
  · rw [State.wake_some hr] at hstep
    exact ⟨_, hstep, s.begin.enterStacked_spec r.vec r.kind⟩
  · rw [State.wake_none hnone] at hstep
    exact hstep

/-! ## Reset (R680 to R684) -/

/-- Settles O60: the step is `State.resetSequence`, and the state after power-on is written out. -/
theorem resetSequence : Obligations.ResetSequence := by
  refine ⟨fun s kind hreset => ⟨_, step_reset hreset, rfl, ?_⟩, rfl, rfl, rfl, rfl, rfl, rfl, rfl, rfl, rfl⟩
  obtain ⟨-, hmem, -, -, hpc, -, -, -, hccrh, hrun, hdelay, hwav, hstale, hrti, hpage, hmcu⟩ :=
    s.begin.resetSequence_fields kind
  exact ⟨hccrh, by cases kind <;> exact hpc, hmem, hrun, hdelay, hwav, hstale, hrti, hpage, hmcu⟩

/-- Settles O14: memory is empty, U clear and IPL zero. -/
theorem resetMeetsInvariant : Obligations.ResetMeetsInvariant := ⟨rfl, fun _ => rfl, fun _ => rfl⟩

end Sys2Proof.Machine
end
